-- ==== Sys2Proof/Word.lean ====
section
/-! DEFINITION. The words of the machine and their widths (00_scope.md R11, R12). -/

namespace Sys2Proof

/-- A "word": 16 bits (R11). -/
abbrev Word := BitVec 16

/-- A byte of chip memory; the core itself never splits a word (R98). -/
abbrev Byte := BitVec 8

/-- The 32-bit storage of a pointer register (R37, R49). -/
abbrev Ptr := BitVec 32

/-- A byte address on the 19 address lines of chip memory (R90). -/
abbrev ChipAddr := BitVec 19

/-- The 64-bit payload of a scheduler entry (R31). -/
abbrev Payload := BitVec 64

/-- `sext_32` of a 16-bit word (R12). -/
def sext32 (v : Word) : BitVec 32 := v.signExtend 32

/-- `zext_32` of a 16-bit word (R12). -/
def zext32 (v : Word) : BitVec 32 := v.zeroExtend 32

end Sys2Proof
end

