-- ==== Sys2Proof/Config.lean ====
section
/-! DEFINITION. The configuration of 00_scope.md R10: the fixed parameters as named constants, and the parameters
that the spec leaves open or asks a model to keep replaceable (the decision values HIRES_MAX_PLANES, DDF_MASK, MICROCODE,
BLIT_START_DELAY and the order of the last four SLOTS; AGNUS_ID, FIXED_SLOTS, LORES_OFFSET, HIRES_OFFSET;
92_eei_decisions.md D7, D11 to D13, D19, D21, D30, 93_implementation_defined.md U2 to U4) as the fields of a structure that the state carries and no operation writes. -/

namespace Sys2Proof

/-! ### Fixed parameters (R10) -/

/-- `COLS`: columns per line (R170). -/
abbrev Config.cols : Nat := 227

/-- `LINES`: lines per frame, every frame long (R170, conflict C1). -/
abbrev Config.lines : Nat := 313

/-- `FRAME_CYCLES` (R170). -/
abbrev Config.frameCycles : Nat := 71051

/-- `DDF_MIN` (R194). -/
abbrev Config.ddfMin : Nat := 0x18

/-- `DDF_MAX` (R194). -/
abbrev Config.ddfMax : Nat := 0xD7

/-- `LORES_STRIDE` (R195). -/
abbrev Config.loresStride : Nat := 8

/-- `HIRES_STRIDE` (R195). -/
abbrev Config.hiresStride : Nat := 4

/-- `MAX_PLANES` (R190). -/
abbrev Config.maxPlanes : Nat := 6

/-- `DMACON_MASK` (R35, D27). -/
abbrev Config.dmaconMask : Word := 0x07FF

/-- `PTH_MASK` (R294). -/
abbrev Config.pthMask : Word := 0x0007

/-- `PTL_MASK` (R295, D26). -/
abbrev Config.ptlMask : Word := 0xFFFE

/-- `MOD_MASK` (R296, D26). -/
abbrev Config.modMask : Word := 0xFFFE

/-- The reduction of every pointer advance to an even 19-bit value (R95). -/
abbrev Config.ptrMask : Ptr := 0x7FFFE

/-- The BLTCON1 bits LINE, DESC, IFE, EFE, any of which makes a start fatal (R243). -/
abbrev Config.bltModeMask : Word := 0x001B

/-! ### Free values (notes/assumptions/11.md) -/

/-- What HOLD_D leaves in a column counter of 0, from wload and hc. The spec states no result there (R255); R55 bounds it. -/
opaque Config.wcBelowZero : Nat → Nat → Fin 65

/-- What HOLD_D leaves in a row counter of 0, from wload (R255, R55). -/
opaque Config.hcBelowZero : Nat → Fin 1025

/-! ### The timer slots -/

/-- The timer slots (10_state.md R31). -/
inductive SlotId where
  | raster | dma | blitter | copper | disk | ciaa | ciab | inspection
  deriving DecidableEq, Repr

/-- The place of a slot in R31's enumeration, which is its number in a packet. Its place in the priority order is
`Config.index`. -/
def SlotId.number : SlotId → Nat
  | .raster => 0 | .dma => 1 | .blitter => 2 | .copper => 3
  | .disk => 4 | .ciaa => 5 | .ciab => 6 | .inspection => 7

/-- The slots in the order of R31's enumeration. -/
def SlotId.all : List SlotId := [.raster, .dma, .blitter, .copper, .disk, .ciaa, .ciab, .inspection]

/-! ### Replaceable parameters -/

/-- `FIXED_SLOTS` (R193): the columns of the disk, audio and sprite slots. -/
structure FixedSlots where
  disk : List Nat
  aud  : Vector Nat 4
  spr  : Vector (Vector Nat 2) 8
  deriving DecidableEq, Repr

/-- The parameters that stay replaceable (R10; notes/assumptions/8.md). Offsets are indexed by plane number minus 1. -/
structure Config where
  /-- `AGNUS_ID`, OPEN (R298, D30). -/
  agnusId     : BitVec 7
  /-- `MICROCODE`, indexed by the 4-bit active-channel mask (R245, D21). -/
  microcode   : Vector (Option (List Word)) 16
  fixedSlots  : FixedSlots
  loresOffset : Vector Nat 6
  hiresOffset : Vector Nat 4
  /-- `HIRES_MAX_PLANES` (R197, D12): at most the four planes that HIRES_OFFSET gives an offset. -/
  hiresMaxPlanes : Fin 5
  /-- `DDF_MASK` (R36, R293, D13). -/
  ddfMask : Word
  /-- `BLIT_START_DELAY`, in cycles (R246, D19). -/
  blitStartDelay : Nat
  /-- The order of the last four of `SLOTS`, the peripheral slots (R31, R144, D7). -/
  peripheralOrder : Vector SlotId 4
  deriving DecidableEq, Repr

/-- The default `FIXED_SLOTS` (R193, D11). -/
def Config.defaultFixedSlots : FixedSlots where
  disk := [0x07, 0x09, 0x0B]
  aud  := #v[0x0D, 0x0F, 0x11, 0x13]
  spr  := #v[#v[0x15, 0x17], #v[0x19, 0x1B], #v[0x1D, 0x1F], #v[0x21, 0x23],
             #v[0x25, 0x27], #v[0x29, 0x2B], #v[0x2D, 0x2F], #v[0x31, 0x33]]

/-- The A,B,C,D program (R115, R245). -/
def Config.programABCD : List Word := [0x0004, 0x0001, 0x0002, 0x03F8]

/-- The A,B,C program (R115, R245). -/
def Config.programABC : List Word := [0x0004, 0x0001, 0x0002, 0x03B8]

/-- The configuration with the defaults of R10 (`AGNUS_ID` 0x00, U2). -/
def Config.default : Config where
  agnusId     := 0
  microcode   := #v[none, none, none, none, none, none, none, none, none, none, none, none, none, none,
                    some Config.programABC, some Config.programABCD]
  fixedSlots  := Config.defaultFixedSlots
  loresOffset := #v[7, 3, 5, 1, 6, 2]
  hiresOffset := #v[3, 1, 2, 0]
  hiresMaxPlanes := 4
  ddfMask := 0x00FF
  blitStartDelay := 1
  peripheralOrder := #v[.disk, .ciaa, .ciab, .inspection]

/-- `SLOTS`, the slots in priority order: the source's first four, then the peripheral slots (R31, R144). -/
def Config.slots (cfg : Config) : List SlotId := [.raster, .dma, .blitter, .copper] ++ cfg.peripheralOrder.toList

/-- `index(s)`, the place of a slot in the priority order (R31, R144). -/
def Config.index (cfg : Config) (x : SlotId) : Nat := cfg.slots.idxOf x

/-- The priority order is one of all eight slots. -/
def Config.OrderOk (cfg : Config) : Prop := cfg.slots.Perm SlotId.all

end Sys2Proof
end

