-- ==== Sys2Proof/Syntax.lean ====
section
/-! DEFINITION. The operations of the core as data: one constructor of `Instr` per row of spec/opcode_table.json
(30_encoding.md R122), the names they act on, and the packet in which an operation reaches the core. -/

namespace Sys2Proof

/-- The Blitter's channels (R46). -/
inductive Channel where
  | a | b | c | d
  deriving DecidableEq, Repr

/-- The pointer registers (R37, R40, R41, R42, R49); bitplane p is index p - 1. -/
inductive PtrId where
  | dsk
  | blt (ch : Channel)
  | aud (n : Fin 4)
  | bpl (p : Fin 6)
  | spr (n : Fin 8)
  deriving DecidableEq, Repr

/-- The modulo registers (R38, R50). -/
inductive ModId where
  | bpl1 | bpl2
  | blt (ch : Channel)
  deriving DecidableEq, Repr

/-- The closed set of register names the core owns (45_register_interface.md R290). -/
inductive Reg where
  | vposr | vhposr
  | pth (p : PtrId) | ptl (p : PtrId)
  | mod (m : ModId)
  | bltcon0 | bltcon1 | bltafwm | bltalwm | bltsize
  | ddfstrt | ddfstop | dmacon
  deriving DecidableEq, Repr

/-- The direction of a register access. -/
inductive Dir where
  | write | read
  deriving DecidableEq, Repr

/-- The forms of a register access: a 16-bit poke, a 16-bit peek, and an access of another width with whatever operands its
packet carries (R302; a width of 16 there is ill-formed, see WellFormed.lean). -/
inductive Access where
  | poke (value : Word)
  | peek
  | sized (dir : Dir) (width : Nat) (operands : List Int)
  deriving DecidableEq, Repr

/-- The operations: one constructor per row of spec/opcode_table.json, in the table's order. -/
inductive Instr where
  -- Blitter micro-actions (format uword, R110)
  | fetchA | fetchB | fetchC | holdA | holdB | holdD | writeD
  /-- LOOPBACK with its offset LB_N and the word's other action bits 6:0 (R112). -/
  | loopback (n : BitVec 6) (actions : BitVec 7)
  | bltidle
  -- register accesses (formats peek and poke, R290)
  | vposr (a : Access) | vhposr (a : Access) | dskpth (a : Access) | dskptl (a : Access)
  | bltcon0 (a : Access) | bltcon1 (a : Access) | bltafwm (a : Access) | bltalwm (a : Access)
  | bltcpth (a : Access) | bltcptl (a : Access) | bltbpth (a : Access) | bltbptl (a : Access)
  | bltapth (a : Access) | bltaptl (a : Access) | bltdpth (a : Access) | bltdptl (a : Access)
  | bltsize (a : Access) | bltcmod (a : Access) | bltbmod (a : Access) | bltamod (a : Access)
  | bltdmod (a : Access) | ddfstrt (a : Access) | ddfstop (a : Access) | dmacon (a : Access)
  | aud0lch (a : Access) | aud0lcl (a : Access) | aud1lch (a : Access) | aud1lcl (a : Access)
  | aud2lch (a : Access) | aud2lcl (a : Access) | aud3lch (a : Access) | aud3lcl (a : Access)
  | bpl1pth (a : Access) | bpl1ptl (a : Access) | bpl2pth (a : Access) | bpl2ptl (a : Access)
  | bpl3pth (a : Access) | bpl3ptl (a : Access) | bpl4pth (a : Access) | bpl4ptl (a : Access)
  | bpl5pth (a : Access) | bpl5ptl (a : Access) | bpl6pth (a : Access) | bpl6ptl (a : Access)
  | bpl1mod (a : Access) | bpl2mod (a : Access) | spr0pth (a : Access) | spr0ptl (a : Access)
  | spr1pth (a : Access) | spr1ptl (a : Access) | spr2pth (a : Access) | spr2ptl (a : Access)
  | spr3pth (a : Access) | spr3ptl (a : Access) | spr4pth (a : Access) | spr4ptl (a : Access)
  | spr5pth (a : Access) | spr5ptl (a : Access) | spr6pth (a : Access) | spr6ptl (a : Access)
  | spr7pth (a : Access) | spr7ptl (a : Access)
  -- interface operations (format iface, R121)
  | schedule (slot : SlotId) (offset : Int) (kind : Nat) (payload : Payload)
  | cancel (slot : SlotId)
  | advanceTo (target : Nat)
  | tick
  /-- BEAM_TO_CYCLE; with no frame, the short form of R174. -/
  | beamToCycle (frame : Option Nat) (line column : Int)
  | cycleToBeam (cycle : Nat)
  | rebuild
  | dmaFire (payload : Payload)
  | hsyncFire
  | bltStart
  | bltStepFire
  | hostPause | hostResume | hostStep | hostSnapshot
  | reset
  deriving DecidableEq, Repr

/-- The register and the access of a register row (R290). -/
def Instr.access? : Instr → Option (Reg × Access)
  | .vposr a => some (.vposr, a)
  | .vhposr a => some (.vhposr, a)
  | .dskpth a => some (.pth .dsk, a)
  | .dskptl a => some (.ptl .dsk, a)
  | .bltcon0 a => some (.bltcon0, a)
  | .bltcon1 a => some (.bltcon1, a)
  | .bltafwm a => some (.bltafwm, a)
  | .bltalwm a => some (.bltalwm, a)
  | .bltcpth a => some (.pth (.blt .c), a)
  | .bltcptl a => some (.ptl (.blt .c), a)
  | .bltbpth a => some (.pth (.blt .b), a)
  | .bltbptl a => some (.ptl (.blt .b), a)
  | .bltapth a => some (.pth (.blt .a), a)
  | .bltaptl a => some (.ptl (.blt .a), a)
  | .bltdpth a => some (.pth (.blt .d), a)
  | .bltdptl a => some (.ptl (.blt .d), a)
  | .bltsize a => some (.bltsize, a)
  | .bltcmod a => some (.mod (.blt .c), a)
  | .bltbmod a => some (.mod (.blt .b), a)
  | .bltamod a => some (.mod (.blt .a), a)
  | .bltdmod a => some (.mod (.blt .d), a)
  | .ddfstrt a => some (.ddfstrt, a)
  | .ddfstop a => some (.ddfstop, a)
  | .dmacon a => some (.dmacon, a)
  | .aud0lch a => some (.pth (.aud 0), a)
  | .aud0lcl a => some (.ptl (.aud 0), a)
  | .aud1lch a => some (.pth (.aud 1), a)
  | .aud1lcl a => some (.ptl (.aud 1), a)
  | .aud2lch a => some (.pth (.aud 2), a)
  | .aud2lcl a => some (.ptl (.aud 2), a)
  | .aud3lch a => some (.pth (.aud 3), a)
  | .aud3lcl a => some (.ptl (.aud 3), a)
  | .bpl1pth a => some (.pth (.bpl 0), a)
  | .bpl1ptl a => some (.ptl (.bpl 0), a)
  | .bpl2pth a => some (.pth (.bpl 1), a)
  | .bpl2ptl a => some (.ptl (.bpl 1), a)
  | .bpl3pth a => some (.pth (.bpl 2), a)
  | .bpl3ptl a => some (.ptl (.bpl 2), a)
  | .bpl4pth a => some (.pth (.bpl 3), a)
  | .bpl4ptl a => some (.ptl (.bpl 3), a)
  | .bpl5pth a => some (.pth (.bpl 4), a)
  | .bpl5ptl a => some (.ptl (.bpl 4), a)
  | .bpl6pth a => some (.pth (.bpl 5), a)
  | .bpl6ptl a => some (.ptl (.bpl 5), a)
  | .bpl1mod a => some (.mod .bpl1, a)
  | .bpl2mod a => some (.mod .bpl2, a)
  | .spr0pth a => some (.pth (.spr 0), a)
  | .spr0ptl a => some (.ptl (.spr 0), a)
  | .spr1pth a => some (.pth (.spr 1), a)
  | .spr1ptl a => some (.ptl (.spr 1), a)
  | .spr2pth a => some (.pth (.spr 2), a)
  | .spr2ptl a => some (.ptl (.spr 2), a)
  | .spr3pth a => some (.pth (.spr 3), a)
  | .spr3ptl a => some (.ptl (.spr 3), a)
  | .spr4pth a => some (.pth (.spr 4), a)
  | .spr4ptl a => some (.ptl (.spr 4), a)
  | .spr5pth a => some (.pth (.spr 5), a)
  | .spr5ptl a => some (.ptl (.spr 5), a)
  | .spr6pth a => some (.pth (.spr 6), a)
  | .spr6ptl a => some (.ptl (.spr 6), a)
  | .spr7pth a => some (.pth (.spr 7), a)
  | .spr7ptl a => some (.ptl (.spr 7), a)
  | .fetchA | .fetchB | .fetchC | .holdA | .holdB | .holdD | .writeD | .loopback _ _ | .bltidle
  | .schedule _ _ _ _ | .cancel _ | .advanceTo _ | .tick | .beamToCycle _ _ _ | .cycleToBeam _ | .rebuild
  | .dmaFire _ | .hsyncFire | .bltStart | .bltStepFire | .hostPause | .hostResume | .hostStep | .hostSnapshot
  | .reset => none

/-- The row of a register name (R290). -/
def Reg.instr : Reg → Access → Instr
  | .vposr, a => .vposr a
  | .vhposr, a => .vhposr a
  | .pth .dsk, a => .dskpth a
  | .ptl .dsk, a => .dskptl a
  | .bltcon0, a => .bltcon0 a
  | .bltcon1, a => .bltcon1 a
  | .bltafwm, a => .bltafwm a
  | .bltalwm, a => .bltalwm a
  | .pth (.blt .c), a => .bltcpth a
  | .ptl (.blt .c), a => .bltcptl a
  | .pth (.blt .b), a => .bltbpth a
  | .ptl (.blt .b), a => .bltbptl a
  | .pth (.blt .a), a => .bltapth a
  | .ptl (.blt .a), a => .bltaptl a
  | .pth (.blt .d), a => .bltdpth a
  | .ptl (.blt .d), a => .bltdptl a
  | .bltsize, a => .bltsize a
  | .mod (.blt .c), a => .bltcmod a
  | .mod (.blt .b), a => .bltbmod a
  | .mod (.blt .a), a => .bltamod a
  | .mod (.blt .d), a => .bltdmod a
  | .ddfstrt, a => .ddfstrt a
  | .ddfstop, a => .ddfstop a
  | .dmacon, a => .dmacon a
  | .pth (.aud 0), a => .aud0lch a
  | .ptl (.aud 0), a => .aud0lcl a
  | .pth (.aud 1), a => .aud1lch a
  | .ptl (.aud 1), a => .aud1lcl a
  | .pth (.aud 2), a => .aud2lch a
  | .ptl (.aud 2), a => .aud2lcl a
  | .pth (.aud 3), a => .aud3lch a
  | .ptl (.aud 3), a => .aud3lcl a
  | .pth (.bpl 0), a => .bpl1pth a
  | .ptl (.bpl 0), a => .bpl1ptl a
  | .pth (.bpl 1), a => .bpl2pth a
  | .ptl (.bpl 1), a => .bpl2ptl a
  | .pth (.bpl 2), a => .bpl3pth a
  | .ptl (.bpl 2), a => .bpl3ptl a
  | .pth (.bpl 3), a => .bpl4pth a
  | .ptl (.bpl 3), a => .bpl4ptl a
  | .pth (.bpl 4), a => .bpl5pth a
  | .ptl (.bpl 4), a => .bpl5ptl a
  | .pth (.bpl 5), a => .bpl6pth a
  | .ptl (.bpl 5), a => .bpl6ptl a
  | .mod .bpl1, a => .bpl1mod a
  | .mod .bpl2, a => .bpl2mod a
  | .pth (.spr 0), a => .spr0pth a
  | .ptl (.spr 0), a => .spr0ptl a
  | .pth (.spr 1), a => .spr1pth a
  | .ptl (.spr 1), a => .spr1ptl a
  | .pth (.spr 2), a => .spr2pth a
  | .ptl (.spr 2), a => .spr2ptl a
  | .pth (.spr 3), a => .spr3pth a
  | .ptl (.spr 3), a => .spr3ptl a
  | .pth (.spr 4), a => .spr4pth a
  | .ptl (.spr 4), a => .spr4ptl a
  | .pth (.spr 5), a => .spr5pth a
  | .ptl (.spr 5), a => .spr5ptl a
  | .pth (.spr 6), a => .spr6pth a
  | .ptl (.spr 6), a => .spr6ptl a
  | .pth (.spr 7), a => .spr7pth a
  | .ptl (.spr 7), a => .spr7ptl a

/-- The formats of spec/opcode_table.json. -/
inductive Format where
  | uword | poke | peek | iface
  deriving DecidableEq, Repr

/-- An operation as it arrives: its format, the width of the access, its code (the micro-word, the register's byte
offset or the operation number, with the bits the table gives it) and its operands in the table's order (R116, R121). -/
structure Packet where
  format : Format
  width  : Nat
  code   : Nat
  args   : List Int
  deriving DecidableEq, Repr

end Sys2Proof
end

