-- ==== Sys2Proof/WellFormed.lean ====
section
/-! DEFINITION. The checks on an operation that its type does not make. -/

namespace Sys2Proof

/-- A sized access has a width other than 16; a 16-bit access is a poke or a peek (R302). -/
def Access.wellFormed : Access → Bool
  | .sized _ width _ => width != 16
  | .poke _ | .peek => true

/-- A register row's access is well formed, and a LOOPBACK has an offset of 1 to 63 (R110, R113). -/
def Instr.wellFormed (i : Instr) : Bool :=
  match i with
  | .loopback n _ => n != 0
  | i =>
    match i.access? with
    | some (_, a) => a.wellFormed
    | none => true

end Sys2Proof
end

