-- ==== Sys2Proof/Decode.lean ====
section
/-! DEFINITION. The decoder and the encoder (30_encoding.md). Three things are encoded: the Blitter's micro-word
(R110 to R115), the register access by name (R116, with the informative offsets of R290), and the interface operation by
number (R121). The decoder is total on packets and rejects by name. -/

namespace Sys2Proof

/-- Why a packet is no operation of the core. -/
inductive DecodeError where
  /-- Bits 15:14 of a micro-word are not 0 (R113). -/
  | reservedBits
  /-- LOOPBACK = 0 with LB_N other than 0 (R113). -/
  | offsetWithoutLoopback
  /-- LOOPBACK = 1 with LB_N = 0 (R113). -/
  | loopbackWithoutOffset
  /-- A legal micro-word of several actions and no LOOPBACK: `decodeMicro` reads all of them (R111). -/
  | severalActions
  /-- The code does not fit the 16 bits of a micro-word, or its width is not 16 (R110). -/
  | notAMicroWord
  /-- A register name outside R290: another component of the chipset is addressed (R306). -/
  | foreignRegister (code : Nat)
  /-- An interface operation code 0x00 or 0x11 and above (R121, R123). -/
  | unknownOperation (code : Nat)
  /-- The operands are not those of the operation, in number or in range. -/
  | badOperands
  deriving DecidableEq, Repr

/-! ### Micro-words -/

/-- The LB_N field (R110). -/
def microOffset (u : Word) : BitVec 6 := u.extractLsb' 8 6

/-- Why a micro-word is illegal, if it is (R113). -/
def microError (u : Word) : Option DecodeError :=
  if u.extractLsb' 14 2 ≠ 0 then some .reservedBits
  else if u.getLsbD 7 = false ∧ microOffset u ≠ 0 then some .offsetWithoutLoopback
  else if u.getLsbD 7 = true ∧ microOffset u = 0 then some .loopbackWithoutOffset
  else none

/-- `illegal(u)` (R113, R247). -/
def illegalMicro (u : Word) : Bool := (microError u).isSome

/-- An action in front of a list when its bit is set. -/
def whenSet (bit : Bool) (i : Instr) (rest : List Instr) : List Instr := if bit then i :: rest else rest

/-- The actions of a micro-word in the order in which they execute (R111, R248). -/
def microActions (u : Word) : List Instr :=
  whenSet (u.getLsbD 2) .fetchC <| whenSet (u.getLsbD 0) .fetchA <| whenSet (u.getLsbD 1) .fetchB <|
  whenSet (u.getLsbD 3) .holdA <| whenSet (u.getLsbD 4) .holdB <| whenSet (u.getLsbD 5) .holdD <|
  whenSet (u.getLsbD 6) .writeD <| whenSet (u.getLsbD 7) (.loopback (microOffset u) (u.extractLsb' 0 7)) []

/-- Decoding a micro-word gives the set of its actions (R111). -/
def decodeMicro (u : Word) : Except DecodeError (List Instr) :=
  match microError u with
  | some e => .error e
  | none => .ok (microActions u)

/-- The instruction of a micro-word that is one row of the table: BLTIDLE, one action, or a LOOPBACK with its other
actions as its operand. -/
def decodeUword (u : Word) : Except DecodeError Instr :=
  match microError u with
  | some e => .error e
  | none =>
    if u.getLsbD 7 then .ok (.loopback (microOffset u) (u.extractLsb' 0 7))
    else
      match microActions u with
      | [] => .ok .bltidle
      | [i] => .ok i
      | _ => .error .severalActions

/-! ### Registers -/

/-- The byte offset of a pointer's high word (R290). -/
def PtrId.base : PtrId → Nat
  | .dsk => 0x020
  | .blt .c => 0x048
  | .blt .b => 0x04C
  | .blt .a => 0x050
  | .blt .d => 0x054
  | .aud n => 0x0A0 + 0x10 * n.val
  | .bpl p => 0x0E0 + 4 * p.val
  | .spr n => 0x120 + 4 * n.val

/-- The byte offset of a modulo register (R290). -/
def ModId.offset : ModId → Nat
  | .blt .c => 0x060
  | .blt .b => 0x062
  | .blt .a => 0x064
  | .blt .d => 0x066
  | .bpl1 => 0x108
  | .bpl2 => 0x10A

/-- The byte offset of a register in the custom-chip register block (R290). -/
def Reg.offset : Reg → Nat
  | .vposr => 0x004
  | .vhposr => 0x006
  | .pth p => p.base
  | .ptl p => p.base + 2
  | .mod m => m.offset
  | .bltcon0 => 0x040
  | .bltcon1 => 0x042
  | .bltafwm => 0x044
  | .bltalwm => 0x046
  | .bltsize => 0x058
  | .ddfstrt => 0x092
  | .ddfstop => 0x094
  | .dmacon => 0x096

/-- Every pointer register. -/
def PtrId.all : List PtrId :=
  [.dsk, .blt .c, .blt .b, .blt .a, .blt .d, .aud 0, .aud 1, .aud 2, .aud 3,
   .bpl 0, .bpl 1, .bpl 2, .bpl 3, .bpl 4, .bpl 5,
   .spr 0, .spr 1, .spr 2, .spr 3, .spr 4, .spr 5, .spr 6, .spr 7]

/-- The register names of R290 other than the pointers'. -/
def Reg.others : List Reg :=
  [.vposr, .vhposr, .bltcon0, .bltcon1, .bltafwm, .bltalwm, .bltsize, .ddfstrt, .ddfstop, .dmacon,
   .mod (.blt .c), .mod (.blt .b), .mod (.blt .a), .mod (.blt .d), .mod .bpl1, .mod .bpl2]

/-- Every register name of R290. -/
def Reg.all : List Reg := Reg.others ++ (PtrId.all.map Reg.pth ++ PtrId.all.map Reg.ptl)

/-- The register a code names: bits 8:1 of the code are the offset's (the table's mask 0x1FE). -/
def regOfCode (code : Nat) : Option Reg :=
  Reg.all.find? fun r => r.offset == code / 2 % 256 * 2

/-! ### Operands of the interface operations -/

/-- An operand that is a natural number. -/
def natOperand : Int → Except DecodeError Nat
  | .ofNat n => .ok n
  | .negSucc _ => .error .badOperands

/-- An operand that is a slot, given by its place in R31's enumeration (`SlotId.number`). -/
def slotOperand : Int → Except DecodeError SlotId
  | .ofNat 0 => .ok .raster
  | .ofNat 1 => .ok .dma
  | .ofNat 2 => .ok .blitter
  | .ofNat 3 => .ok .copper
  | .ofNat 4 => .ok .disk
  | .ofNat 5 => .ok .ciaa
  | .ofNat 6 => .ok .ciab
  | .ofNat 7 => .ok .inspection
  | _ => .error .badOperands

/-- An operand that is a 64-bit payload. -/
def payloadOperand : Int → Except DecodeError Payload
  | .ofNat n => if n < 2 ^ 64 then .ok (BitVec.ofNat 64 n) else .error .badOperands
  | .negSucc _ => .error .badOperands

/-- An operand that is a 16-bit word. -/
def wordOperand : Int → Except DecodeError Word
  | .ofNat n => if n < 2 ^ 16 then .ok (BitVec.ofNat 16 n) else .error .badOperands
  | .negSucc _ => .error .badOperands

/-- How many operands an interface operation takes in the table's form. -/
def operandCount : Nat → Nat
  | 0x01 => 4
  | 0x02 | 0x03 | 0x06 | 0x08 => 1
  | 0x05 => 3
  | _ => 0

/-- The interface operations by number (R121). The number decides alone: the width that the packet states is not looked at,
whether it is the 8 of R121 or another, which the spec leaves open (notes/assumptions/35.md). -/
def decodeIface (code : Nat) (args : List Int) : Except DecodeError Instr :=
  match code, args with
  | 0x01, [slot, offset, kind, payload] => do
    return .schedule (← slotOperand slot) offset (← natOperand kind) (← payloadOperand payload)
  | 0x02, [slot] => do return .cancel (← slotOperand slot)
  | 0x03, [target] => do return .advanceTo (← natOperand target)
  | 0x04, [] => .ok .tick
  | 0x05, [frame, line, column] => do return .beamToCycle (some (← natOperand frame)) line column
  | 0x05, [line, column] => .ok (.beamToCycle none line column)
  | 0x06, [cycle] => do return .cycleToBeam (← natOperand cycle)
  | 0x07, [] => .ok .rebuild
  | 0x08, [payload] => do return .dmaFire (← payloadOperand payload)
  | 0x09, [] => .ok .hsyncFire
  | 0x0A, [] => .ok .bltStart
  | 0x0B, [] => .ok .bltStepFire
  | 0x0C, [] => .ok .hostPause
  | 0x0D, [] => .ok .hostResume
  | 0x0E, [] => .ok .hostStep
  | 0x0F, [] => .ok .hostSnapshot
  | 0x10, [] => .ok .reset
  | code, _ => .error (if code = 0 ∨ 0x10 < code then .unknownOperation code else .badOperands)

/-! ### Packets -/

/-- A register access of direction `dir` (R116, R302). The spec gives no packet form of an access of another width; since its
width is checked before all else (60_exceptions.md R347), the decoder takes it with any operands, the value of a poke among
them (notes/assumptions/33.md). -/
def decodeAccess (dir : Dir) (width : Nat) (args : List Int) : Except DecodeError Access :=
  if width ≠ 16 then .ok (.sized dir width args)
  else
    match dir, args with
    | .write, [v] => do return .poke (← wordOperand v)
    | .read, [] => .ok .peek
    | _, _ => .error .badOperands

/-- A register packet: the name's access (R290, R306). -/
def decodeRegister (dir : Dir) (p : Packet) : Except DecodeError Instr :=
  match regOfCode p.code with
  | none => .error (.foreignRegister p.code)
  | some r => do return r.instr (← decodeAccess dir p.width p.args)

/-- The decoder: the operation a packet is, or why it is none. -/
def decode (p : Packet) : Except DecodeError Instr :=
  match p.format with
  | .uword =>
    if p.width = 16 ∧ p.code < 2 ^ 16 ∧ p.args = [] then decodeUword (BitVec.ofNat 16 p.code)
    else .error .notAMicroWord
  | .poke => decodeRegister .write p
  | .peek => decodeRegister .read p
  | .iface => decodeIface p.code p.args

/-! ### The encoder -/

/-- The micro-word with LOOPBACK set, offset `n` and the other action bits (R110). -/
def loopbackWord (n : BitVec 6) (actions : BitVec 7) : Word := (0 : BitVec 2) ++ n ++ (1 : BitVec 1) ++ actions

/-- The micro-word of a micro-action (R110). -/
def microWord : Instr → Option Word
  | .fetchA => some 0x0001
  | .fetchB => some 0x0002
  | .fetchC => some 0x0004
  | .holdA => some 0x0008
  | .holdB => some 0x0010
  | .holdD => some 0x0020
  | .writeD => some 0x0040
  | .loopback n actions => some (loopbackWord n actions)
  | .bltidle => some 0x0000
  | _ => none

/-- The packet of a register access. -/
def encodeAccess (r : Reg) : Access → Packet
  | .poke v => ⟨.poke, 16, r.offset, [(v.toNat : Int)]⟩
  | .peek => ⟨.peek, 16, r.offset, []⟩
  | .sized .write w args => ⟨.poke, w, r.offset, args⟩
  | .sized .read w args => ⟨.peek, w, r.offset, args⟩

/-- An interface packet: an 8-bit operation number and its operands (R121). -/
def ifacePacket (code : Nat) (args : List Int) : Packet := ⟨.iface, 8, code, args⟩

/-- The packet of an interface operation (R121). -/
def encodeIface : Instr → Packet
  | .schedule s o k p => ifacePacket 0x01 [(s.number : Int), o, (k : Int), (p.toNat : Int)]
  | .cancel s => ifacePacket 0x02 [(s.number : Int)]
  | .advanceTo t => ifacePacket 0x03 [(t : Int)]
  | .tick => ifacePacket 0x04 []
  | .beamToCycle (some f) l c => ifacePacket 0x05 [(f : Int), l, c]
  | .beamToCycle none l c => ifacePacket 0x05 [l, c]
  | .cycleToBeam c => ifacePacket 0x06 [(c : Int)]
  | .rebuild => ifacePacket 0x07 []
  | .dmaFire p => ifacePacket 0x08 [(p.toNat : Int)]
  | .hsyncFire => ifacePacket 0x09 []
  | .bltStart => ifacePacket 0x0A []
  | .bltStepFire => ifacePacket 0x0B []
  | .hostPause => ifacePacket 0x0C []
  | .hostResume => ifacePacket 0x0D []
  | .hostStep => ifacePacket 0x0E []
  | .hostSnapshot => ifacePacket 0x0F []
  | .reset => ifacePacket 0x10 []
  | _ => ifacePacket 0x00 []

/-- The encoder: the packet of an operation, from the same tables (R110, R121, R290). -/
def encode (i : Instr) : Packet :=
  match microWord i, i.access? with
  | some u, _ => ⟨.uword, 16, u.toNat, []⟩
  | none, some (r, a) => encodeAccess r a
  | none, none => encodeIface i

/-! ### The table's numbering -/

/-- The packet of an interface operation of the table, its operands all zero. -/
def tableIface (w : Nat) : Packet := ⟨.iface, 8, w, List.replicate (operandCount w) 0⟩

/-- The packet of a register row of the table: a peek of a read-only name, a poke of 0 of any other. -/
def tableRegister (w : Nat) : Packet :=
  match regOfCode w with
  | some .vposr | some .vhposr => ⟨.peek, 16, w, []⟩
  | _ => ⟨.poke, 16, w, [0]⟩

/-- The packet of a table word. A word of 8 bits is an interface operation. Micro-words and register offsets share
their 16 bits and nothing in the bits tells them apart: a word that is one row of micro-action is read as that,
any other as a register. -/
def tablePacket (nbits w : Nat) : Packet :=
  if nbits ≤ 8 then tableIface w
  else
    match decode ⟨.uword, 16, w, []⟩ with
    | .ok _ => ⟨.uword, 16, w, []⟩
    | .error _ => tableRegister w

/-- The instruction the decoder reads from the bits of a table row (operands zero). -/
def decodeTableWord (nbits w : Nat) : Option Instr :=
  match decode (tablePacket nbits w) with
  | .ok i => some i
  | .error _ => none

end Sys2Proof
end

