-- ==== Sys2Proof/Machine/State.lean ====
section
/-! DEFINITION. The state of the machine (10_state.md): `Core` is every element of R30 to R59, `State` adds the history
(R60), chip memory and the inputs from the agents outside the core (60_exceptions.md R349). All of it is plain data. -/

namespace Sys2Proof.Machine

/-- No step of this machine ends in an outcome `fault`: the spec's fatal faults are the sticky register of R59, which the
next state holds (60_exceptions.md R341, R342), and the 19 address lines of chip memory reach no address outside it
(20_memory.md R90). The type has no member. -/
inductive Fault where
  deriving DecidableEq, Repr

/-- What a step can refuse. -/
inductive Refusal where
  /-- An instruction that has no meaning in exec yet. Raised by no arm of exec now. Safe: nothing is claimed of it. -/
  | notModelled (mnemonic : String)
  deriving DecidableEq, Repr

/-! ### Event Scheduler (R30 to R33) -/

/-- The closed enumeration of event kinds (R32). -/
inductive EventKind where
  | hsync | dmaFetch | bltStep | copEvent | dskEvent | ciaEvent | insEvent
  deriving DecidableEq, Repr

/-- The numeric code of a kind (30_encoding.md R118). -/
def EventKind.code : EventKind → Nat
  | .hsync => 0 | .dmaFetch => 1 | .bltStep => 2 | .copEvent => 3
  | .dskEvent => 4 | .ciaEvent => 5 | .insEvent => 6

/-- The one kind that a slot admits (R32). -/
def slotKind : SlotId → EventKind
  | .raster => .hsync
  | .dma => .dmaFetch
  | .blitter => .bltStep
  | .copper => .copEvent
  | .disk => .dskEvent
  | .ciaa | .ciab => .ciaEvent
  | .inspection => .insEvent

/-- A pending entry (R31, R118). -/
structure Entry where
  trigger : Nat
  kind    : EventKind
  payload : Payload
  deriving DecidableEq, Repr

/-- The eight slots, each with zero or one pending entry (R31). -/
structure Slots where
  raster     : Option Entry
  dma        : Option Entry
  blitter    : Option Entry
  copper     : Option Entry
  disk       : Option Entry
  ciaa       : Option Entry
  ciab       : Option Entry
  inspection : Option Entry
  deriving DecidableEq, Repr

/-- Reading a slot. -/
def Slots.get (t : Slots) : SlotId → Option Entry
  | .raster => t.raster
  | .dma => t.dma
  | .blitter => t.blitter
  | .copper => t.copper
  | .disk => t.disk
  | .ciaa => t.ciaa
  | .ciab => t.ciab
  | .inspection => t.inspection

/-- Writing a slot; the entry it held is discarded (40_event_scheduler.md R141). -/
def Slots.set (t : Slots) (x : SlotId) (e : Option Entry) : Slots :=
  match x with
  | .raster => { t with raster := e }
  | .dma => { t with dma := e }
  | .blitter => { t with blitter := e }
  | .copper => { t with copper := e }
  | .disk => { t with disk := e }
  | .ciaa => { t with ciaa := e }
  | .ciab => { t with ciab := e }
  | .inspection => { t with inspection := e }

/-! ### Allocation table (R43) -/

/-- The owner of a column. A sprite's slot index is k; bitplane p is index p - 1. -/
inductive Owner where
  | none
  | disk
  | aud (n : Fin 4)
  | spr (n : Fin 8) (k : Fin 2)
  | bpl (p : Fin 6)
  deriving DecidableEq, Repr

/-! ### Blitter (R46 to R57) -/

/-- The Blitter's states (R52). -/
inductive BltState where
  | idle | initializing | running
  deriving DecidableEq, Repr

/-- The Blitter's registers and internal state. -/
structure Blitter where
  bltcon0 : Word
  bltcon1 : Word
  bltafwm : Word
  bltalwm : Word
  bltsize : Word
  apt : Ptr
  bpt : Ptr
  cpt : Ptr
  dpt : Ptr
  amod : Word
  bmod : Word
  cmod : Word
  dmod : Word
  state  : BltState
  upc    : BitVec 6
  prog   : Option (List Word)
  chmask : BitVec 4
  wc    : Nat
  hc    : Nat
  wload : Nat
  anew : Word
  aold : Word
  bnew : Word
  bold : Word
  ahold : Word
  bhold : Word
  chold : Word
  dhold : Word
  /-- The variable `first` of the micro-instruction in progress (44_blitter_sequencer.md R247, R264). -/
  first : Bool
  /-- The variable `last` of the micro-instruction in progress (R247, R264). -/
  last  : Bool
  /-- The variable `done` of the micro-instruction in progress (R247, R255). -/
  done  : Bool
  deriving DecidableEq, Repr

/-! ### Faults (60_exceptions.md R344) -/

/-- A fatal fault: its reason with its info (R59, R344). -/
inductive Fatal where
  /-- Code 1: a transfer started with a channel mask that has no program. -/
  | unimplBlitChannels (mask : BitVec 4)
  /-- Code 2: scheduleNext with a trigger below earliest(s). -/
  | scheduleInPast (slot : SlotId) (trigger : Int)
  /-- Code 3: an entry fired on an empty slot; no operation of this machine raises it (R151). -/
  | emptySlotFired (slot : SlotId)
  /-- Code 4: a kind code of 7 or above, or a kind that the slot does not admit. -/
  | invalidEventKind (slot : SlotId) (kind : Nat)
  /-- Code 5: a transfer started with LINE, DESC, IFE or EFE set. -/
  | unimplBlitMode (bltcon1 : Word)
  /-- Code 6: BLTSIZE poked while a transfer is INITIALIZING or RUNNING. -/
  | blitBusy (bltsize : Word)
  /-- Code 7: BLTSIZE poked with DMAEN or BLTEN clear. -/
  | blitDmaOff (dmacon : Word)
  /-- Code 8: a BLTCON0 poke changing the channel mask during a transfer. -/
  | blitChannelsChanged (old new : BitVec 4)
  /-- Code 9: an illegal micro-word, or a loop-back below index 0. -/
  | illegalMicroword (upc : BitVec 6) (word : Word)
  /-- Code 10: the micro-program counter past the program's last word. -/
  | micropcOverrun (upc : BitVec 6)
  /-- Code 11: a peek of a write-only register. -/
  | readWriteOnly (name : Reg)
  /-- Code 12: a poke of VPOSR or VHPOSR. -/
  | writeReadOnly (name : Reg)
  /-- Code 13: a register access of a width other than 16 bits. -/
  | badAccessWidth (name : Reg) (width : Nat)
  /-- Code 14: a rebuild with a plane count above 6. -/
  | bpuOutOfRange (bpu : Nat)
  /-- Code 15: a DMA_FETCH at a column with owner NONE. -/
  | dmaUnownedColumn (column : Nat)
  deriving DecidableEq, Repr

/-- The numeric code of a fault (R344). -/
def Fatal.code : Fatal → Nat
  | .unimplBlitChannels _ => 1
  | .scheduleInPast _ _ => 2
  | .emptySlotFired _ => 3
  | .invalidEventKind _ _ => 4
  | .unimplBlitMode _ => 5
  | .blitBusy _ => 6
  | .blitDmaOff _ => 7
  | .blitChannelsChanged _ _ => 8
  | .illegalMicroword _ _ => 9
  | .micropcOverrun _ => 10
  | .readWriteOnly _ => 11
  | .writeReadOnly _ => 12
  | .badAccessWidth _ _ => 13
  | .bpuOutOfRange _ => 14
  | .dmaUnownedColumn _ => 15

/-! ### The core (R30 to R59) -/

/-- Every state element of R30 to R59, which is what HOST_SNAPSHOT copies (R362). Arrays are indexed from 0: plane p is
index p - 1. -/
structure Core where
  /-- R30. -/
  clock   : Nat
  /-- R31. -/
  slots   : Slots
  /-- R33. -/
  passing : Option SlotId
  /-- R34. -/
  frame   : Nat
  /-- R34. -/
  line    : Nat
  /-- R34. -/
  column  : Nat
  /-- R35. -/
  dmacon  : Word
  /-- R36. -/
  ddfstrt : Word
  /-- R36. -/
  ddfstop : Word
  /-- R37. -/
  bplpt   : Vector Ptr 6
  /-- R38. -/
  bpl1mod : Word
  /-- R38. -/
  bpl2mod : Word
  /-- R39. -/
  bpldat  : Vector Word 6
  /-- R40. -/
  sprpt   : Vector Ptr 8
  /-- R40. -/
  sprdat  : Vector (Vector Word 2) 8
  /-- R41. -/
  audpt   : Vector Ptr 4
  /-- R41. -/
  auddat  : Vector Word 4
  /-- R42. -/
  dskpt   : Ptr
  /-- R42. -/
  dskdat  : Word
  /-- R43: one tag per column, column 0 first. -/
  owner   : List Owner
  /-- R44: one entry per column, `none` for NIL. -/
  next    : List (Option Nat)
  /-- R44. -/
  first   : Option Nat
  /-- R45. -/
  lastFetch : Vector (Option Nat) 6
  /-- R46 to R57. -/
  blt     : Blitter
  /-- R59. -/
  fault   : Option Fatal
  deriving DecidableEq, Repr

/-! ### History (R60) -/

/-- The notifications to collaborators (00_scope.md R15, 60_exceptions.md R348). -/
inductive Notice where
  | line | frame | plane1Data
  deriving DecidableEq, Repr

/-- What a record of the history says (R60, R93, R94, R342). -/
inductive Happening where
  | read (addr : ChipAddr)
  | write (addr : ChipAddr) (value : Word)
  | notify (what : Notice)
  | poke (name : Reg) (value : Word)
  | peek (name : Reg)
  | dispatch (slot : SlotId) (kind : EventKind) (payload : Payload)
  | fault (reason : Fatal)
  deriving DecidableEq, Repr

/-- A record, stamped with the clock (R60). -/
structure Record where
  clock : Nat
  what  : Happening
  deriving DecidableEq, Repr

/-! ### Outside the core -/

/-- Chip memory: the bytes that differ from what an unlisted address reads as, addresses strictly rising (R90). -/
abbrev Memory := List Host.Cell

/-- The pixel-generation component's present answers to the queries HIRES and BPU (42_slot_allocator.md R191). -/
structure Pixel where
  hires : Bool
  bpu   : Nat
  deriving DecidableEq, Repr

/-- What a collaborator's handler can do while its event is dispatched (R63, 00_scope.md R8, 40_event_scheduler.md R143,
R148): call the scheduler, access a register, write chip memory; and a change of the pixel component's answers that
falls in that dispatch. -/
inductive CollabAct where
  | schedule (slot : SlotId) (offset : Int) (kind : Nat) (payload : Payload)
  | cancel (slot : SlotId)
  | access (name : Reg) (a : Access)
  | pixel (answers : Pixel)
  | write (addr : ChipAddr) (value : Word)
  deriving DecidableEq, Repr

/-- What arrives from outside between two passes (60_exceptions.md R349): an operation of the core, a change of the pixel
component's answers, a collaborator's write of chip memory. -/
inductive Input where
  | op (p : Packet)
  | pixel (answers : Pixel)
  | write (addr : ChipAddr) (value : Word)
  deriving DecidableEq, Repr

/-- What an operation returned to its caller: nothing, a peek's word (R116), a cycle or NEVER (R174), a beam position
(R173), a snapshot (R362). -/
inductive Reply where
  | none
  | word (v : Word)
  | cycle (c : Option Nat)
  | beam (frame line column : Nat)
  | snapshot (c : Core)
  deriving DecidableEq, Repr

/-- The whole machine. -/
structure State extends Core where
  /-- R60, oldest record first. -/
  history  : List Record
  /-- Chip memory (R90). -/
  mem      : Memory
  /-- The replaceable parameters of R10; no operation writes them. -/
  cfg      : Config
  /-- The pixel component's answers (R191). -/
  pixel    : Pixel
  /-- The operations and outside events still to arrive, in order (R349). -/
  inbox    : List Input
  /-- What the collaborators' handlers will do, one script per dispatch, in order (R148). -/
  handlers : List (List CollabAct)
  /-- The host's run loop is paused (R361). -/
  paused   : Bool
  /-- What the last operation returned. -/
  reply    : Reply
  deriving DecidableEq, Repr

/-! ### Reset (R64, 70_reset_and_hazards.md R380) -/

/-- The Blitter right after reset (R46 to R57). -/
def Blitter.reset : Blitter where
  bltcon0 := 0
  bltcon1 := 0
  bltafwm := 0
  bltalwm := 0
  bltsize := 0
  apt := 0
  bpt := 0
  cpt := 0
  dpt := 0
  amod := 0
  bmod := 0
  cmod := 0
  dmod := 0
  state := .idle
  upc := 0
  prog := none
  chmask := 0
  wc := 0
  hc := 0
  wload := 0
  anew := 0
  aold := 0
  bnew := 0
  bold := 0
  ahold := 0
  bhold := 0
  chold := 0
  dhold := 0
  first := false
  last := false
  done := false

/-- The slots right after reset: RASTER holds (0, HSYNC, 0), every other slot is empty (R31). -/
def Slots.reset : Slots where
  raster := some ⟨0, .hsync, 0⟩
  dma := none
  blitter := none
  copper := none
  disk := none
  ciaa := none
  ciab := none
  inspection := none

/-- The core right after reset (R64). -/
def Core.reset : Core where
  clock := 0
  slots := Slots.reset
  passing := none
  frame := 0
  line := 0
  column := 0
  dmacon := 0
  ddfstrt := 0
  ddfstop := 0
  bplpt := Vector.replicate 6 0
  bpl1mod := 0
  bpl2mod := 0
  bpldat := Vector.replicate 6 0
  sprpt := Vector.replicate 8 0
  sprdat := Vector.replicate 8 (Vector.replicate 2 0)
  audpt := Vector.replicate 4 0
  auddat := Vector.replicate 4 0
  dskpt := 0
  dskdat := 0
  owner := List.replicate Config.cols .none
  next := List.replicate Config.cols none
  first := none
  lastFetch := Vector.replicate 6 none
  blt := Blitter.reset
  fault := none

/-- The machine right after power-on, which is a reset (R381). The fields outside the core hold what notes/assumptions 1, 4,
6, 7, 8, 9 and 17 name. -/
def State.reset : State where
  toCore := Core.reset
  history := []
  mem := []
  cfg := Config.default
  pixel := ⟨false, 0⟩
  inbox := []
  handlers := []
  paused := false
  reply := .none

end Sys2Proof.Machine
end

