-- ==== Sys2Proof/Machine/Ops.lean ====
section
/-! DEFINITION. The named operations over chip memory, history, fault register, slots and pointer registers, which every
meaning is written over. -/

namespace Sys2Proof.Machine

/-! ### Sequencing and the fault register (00_scope.md R16, 60_exceptions.md R340 to R343) -/

/-- The core is halted: the sticky fault register is set (R341). -/
def State.halted (s : State) : Bool := s.fault.isSome

/-- An operation that is refused while a fault is set: it changes no state (R140, R307, R341). -/
def unlessHalted (f : State → State) (s : State) : State :=
  if s.halted then s else f s

/-- `f` and then `g`; a fault raised in `f` abandons what comes after (R16, R342). -/
def andThen (f g : State → State) (s : State) : State := unlessHalted g (f s)

/-- Append a record to the history, stamped with the clock (10_state.md R60). -/
def State.log (s : State) (what : Happening) : State :=
  { s with history := s.history ++ [⟨s.clock, what⟩] }

/-- Fault entry, `raise Fatal(reason, info)` (R342): the first reason stays, the raise is recorded. There is no handler to
go to and no return (R343); `State.resetCore` is the only way out. -/
def raiseFatal (f : Fatal) (s : State) : State :=
  State.log { s with fault := if s.fault.isNone then some f else s.fault } (.fault f)

/-- RESET (70_reset_and_hazards.md R380): every element of 10_state.md takes its reset value; chip memory, the
configuration and what belongs to the collaborators and the host stay. -/
def State.resetCore (s : State) : State :=
  { s with toCore := Core.reset, history := [] }

/-! ### Chip memory (20_memory.md R90 to R98) -/

/-- What a byte that is not listed reads as (notes/assumptions/1.md). -/
def Memory.unlisted : Byte := 0

/-- The byte at an address. -/
def Memory.readByte : Memory → Nat → Byte
  | [], _ => Memory.unlisted
  | (b, v) :: rest, a => if b = a then v else Memory.readByte rest a

/-- Put a byte in front of a list whose addresses are all higher, unless it is what an unlisted address reads as. -/
def Memory.consByte (a : Nat) (v : Byte) (rest : Memory) : Memory :=
  if v = Memory.unlisted then rest else (a, v) :: rest

/-- Write a byte, keeping the canonical form. -/
def Memory.writeByte : Memory → Nat → Byte → Memory
  | [], a, v => Memory.consByte a v []
  | (b, w) :: rest, a, v =>
    if a < b then Memory.consByte a v ((b, w) :: rest)
    else if a = b then Memory.consByte a v rest
    else (b, w) :: Memory.writeByte rest a v

/-- All addresses are at least `lo` and below 2^19, they rise strictly, and no entry is what an unlisted address reads as. -/
def Memory.wfFrom : Nat → Memory → Bool
  | _, [] => true
  | lo, (a, v) :: rest =>
    decide (lo ≤ a) && decide (a < 2 ^ 19) && decide (v ≠ Memory.unlisted) && Memory.wfFrom (a + 1) rest

/-- The canonical form of chip memory. -/
def Memory.wf (m : Memory) : Bool := Memory.wfFrom 0 m

/-- The even address of the word that contains a byte address: memory is accessed by whole words (R90, R96). -/
def wordAddr (a : ChipAddr) : Nat := 2 * (a.toNat / 2)

/-- The word at an address; the even byte is bits 15:8 (R98, notes/assumptions/2.md). -/
def Memory.readWord (m : Memory) (a : ChipAddr) : Word :=
  m.readByte (wordAddr a) ++ m.readByte (wordAddr a + 1)

/-- Store a word. -/
def Memory.writeWord (m : Memory) (a : ChipAddr) (v : Word) : Memory :=
  (m.writeByte (wordAddr a) (v.extractLsb' 8 8)).writeByte (wordAddr a + 1) (v.extractLsb' 0 8)

/-- The 19 address lines that a pointer register drives (R90, R95; notes/assumptions/3.md). -/
def chipAddr (p : Ptr) : ChipAddr := p.extractLsb' 0 19

/-- The value `MemRead(p, 2)` returns (R93). -/
def State.wordAt (s : State) (p : Ptr) : Word := s.mem.readWord (chipAddr p)

/-- The effect of `MemRead(p, 2)` (R93): the history records it, memory is unchanged. -/
def State.noteRead (s : State) (p : Ptr) : State := s.log (.read (chipAddr p))

/-- `MemWrite(a, 2, v)` at an address of chip memory (R94). R94's precondition is an even address, and the core forms no
other (R95). What a collaborator's write at an odd address does is the model's choice (notes/assumptions/32.md): it stores
the word that contains the address, and the record keeps the address as given. -/
def State.storeAt (s : State) (a : ChipAddr) (v : Word) : State :=
  State.log { s with mem := s.mem.writeWord a v } (.write a v)

/-- `MemWrite(p, 2, v)` through a pointer register (R94). -/
def State.store (s : State) (p : Ptr) (v : Word) : State := s.storeAt (chipAddr p) v

/-! ### Slots -/

/-- The pending entry of a slot. -/
def State.slot (s : State) (x : SlotId) : Option Entry := s.slots.get x

/-- Write a slot. -/
def State.setSlot (s : State) (x : SlotId) (e : Option Entry) : State :=
  { s with slots := s.slots.set x e }

/-- The slot whose handler is running (10_state.md R33). -/
def State.setPassing (s : State) (p : Option SlotId) : State := { s with passing := p }

/-! ### Registers by name -/

/-- The pointer register a name selects (R290). -/
def State.ptr (s : State) : PtrId → Ptr
  | .dsk => s.dskpt
  | .blt .a => s.blt.apt
  | .blt .b => s.blt.bpt
  | .blt .c => s.blt.cpt
  | .blt .d => s.blt.dpt
  | .aud n => s.audpt[n]
  | .bpl p => s.bplpt[p]
  | .spr n => s.sprpt[n]

/-- Write a pointer register. -/
def State.setPtr (s : State) (p : PtrId) (v : Ptr) : State :=
  match p with
  | .dsk => { s with dskpt := v }
  | .blt .a => { s with blt.apt := v }
  | .blt .b => { s with blt.bpt := v }
  | .blt .c => { s with blt.cpt := v }
  | .blt .d => { s with blt.dpt := v }
  | .aud n => { s with audpt := s.audpt.set n v }
  | .bpl p => { s with bplpt := s.bplpt.set p v }
  | .spr n => { s with sprpt := s.sprpt.set n v }

/-- The modulo register a name selects (R290). -/
def State.modulo (s : State) : ModId → Word
  | .bpl1 => s.bpl1mod
  | .bpl2 => s.bpl2mod
  | .blt .a => s.blt.amod
  | .blt .b => s.blt.bmod
  | .blt .c => s.blt.cmod
  | .blt .d => s.blt.dmod

/-- Write a modulo register. -/
def State.setModulo (s : State) (m : ModId) (v : Word) : State :=
  match m with
  | .bpl1 => { s with bpl1mod := v }
  | .bpl2 => { s with bpl2mod := v }
  | .blt .a => { s with blt.amod := v }
  | .blt .b => { s with blt.bmod := v }
  | .blt .c => { s with blt.cmod := v }
  | .blt .d => { s with blt.dmod := v }

/-- What an operation returns to its caller. -/
def State.answer (s : State) (r : Reply) : State := { s with reply := r }

end Sys2Proof.Machine
end

