-- ==== Sys2Proof/Machine/Operands.lean ====
section
/-! DEFINITION. Operand assembly and the data path: how poke values become register contents (30_encoding.md R117), the
fields of the control registers, pointer advances, the barrel shifter and the minterm combiner. -/

namespace Sys2Proof.Machine

/-! ### Poke values (R117) -/

/-- A pointer after a high-word poke (45_register_interface.md R294). -/
def withHighWord (p : Ptr) (v : Word) : Ptr :=
  (zext32 (v &&& Config.pthMask) <<< 16) ||| (p &&& 0x0000FFFF)

/-- A pointer after a low-word poke (R295). -/
def withLowWord (p : Ptr) (v : Word) : Ptr :=
  (p &&& 0xFFFF0000) ||| zext32 (v &&& Config.ptlMask)

/-- A modulo after a poke (R296). -/
def moduloOf (v : Word) : Word := v &&& Config.modMask

/-- A fetch-window register after a poke (R293). -/
def ddfOf (cfg : Config) (v : Word) : Word := v &&& cfg.ddfMask

/-- dmacon after a poke: set or clear by bit 15 (R292). -/
def setClear (old v : Word) : Word :=
  if v.getLsbD 15 then old ||| (v &&& Config.dmaconMask) else old &&& ~~~(v &&& Config.dmaconMask)

/-! ### Control register fields -/

/-- ASH, BLTCON0 bits 15:12 (10_state.md R46). -/
def ashOf (bltcon0 : Word) : Nat := (bltcon0.extractLsb' 12 4).toNat

/-- The active-channel mask, BLTCON0 bits 11:8 (R46). -/
def channelMask (bltcon0 : Word) : BitVec 4 := bltcon0.extractLsb' 8 4

/-- The minterm selector LF, BLTCON0 bits 7:0 (R46). -/
def lfOf (bltcon0 : Word) : BitVec 8 := bltcon0.extractLsb' 0 8

/-- BSH, BLTCON1 bits 15:12 (R47). -/
def bshOf (bltcon1 : Word) : Nat := (bltcon1.extractLsb' 12 4).toNat

/-- W, BLTSIZE bits 5:0, 0 meaning 64 (44_blitter_sequencer.md R241). -/
def widthOf (bltsize : Word) : Nat :=
  if bltsize.extractLsb' 0 6 = 0 then 64 else (bltsize.extractLsb' 0 6).toNat

/-- H, BLTSIZE bits 15:6, 0 meaning 1024 (R241). -/
def heightOf (bltsize : Word) : Nat :=
  if bltsize.extractLsb' 6 10 = 0 then 1024 else (bltsize.extractLsb' 6 10).toNat

/-- DMAEN and BLTEN are both set (10_state.md R35, 44_blitter_sequencer.md R260). -/
def blitterDma (dmacon : Word) : Bool := dmacon.getLsbD 9 && dmacon.getLsbD 6

/-- `clamp(v, lo, hi)` (00_scope.md R17). -/
def clamp (v lo hi : Nat) : Nat := min (max v lo) hi

/-- A fetch-window column as the allocator reads it (42_slot_allocator.md R194). -/
def windowColumn (ddf : Word) : Nat := clamp ddf.toNat Config.ddfMin Config.ddfMax

/-! ### Pointer advance -/

/-- `adv(ptr, m)` (43_dma_dispatcher.md R221). -/
def adv (p : Ptr) (m : Word) : Ptr := (p + 2 + sext32 m) &&& Config.ptrMask

/-- `badv(ptr, mod, last)` (44_blitter_sequencer.md R252). -/
def badv (p : Ptr) (m : Word) (last : Bool) : Ptr :=
  (p + 2 + (if last then sext32 m else 0)) &&& Config.ptrMask

/-! ### Data path of the Blitter -/

/-- The barrel shifter (R263). -/
def shift (old new : Word) (n : Nat) : Word := ((old ++ new) >>> n).extractLsb' 0 16

/-- One of the eight AND-terms of the combiner: each operand or its complement, by the bits of the index (R257). -/
def mintermTerm (i : Nat) (a b c : Word) : Word :=
  (if i.testBit 2 then a else ~~~a) &&& (if i.testBit 1 then b else ~~~b) &&& (if i.testBit 0 then c else ~~~c)

/-- A term when the selector enables it (R257). -/
def selectedTerm (lf : BitVec 8) (i : Nat) (a b c : Word) : Word :=
  if lf.getLsbD i then mintermTerm i a b c else 0

/-- `minterm(lf, a, b, c)`: the OR of the enabled terms (R257). -/
def minterm (lf : BitVec 8) (a b c : Word) : Word :=
  selectedTerm lf 7 a b c ||| selectedTerm lf 6 a b c ||| selectedTerm lf 5 a b c ||| selectedTerm lf 4 a b c |||
  selectedTerm lf 3 a b c ||| selectedTerm lf 2 a b c ||| selectedTerm lf 1 a b c ||| selectedTerm lf 0 a b c

/-- The A word after the first-word and last-word masks (R253). -/
def maskedA (anew afwm alwm : Word) (first last : Bool) : Word :=
  anew &&& (if first then afwm else 0xFFFF) &&& (if last then alwm else 0xFFFF)

/-! ### Numbers of the model's own enumerations -/

/-- The owner codes (30_encoding.md R120). -/
def Owner.code : Owner → Nat
  | .none => 0
  | .disk => 1
  | .aud n => 2 + n.val
  | .spr n k => 6 + 2 * n.val + k.val
  | .bpl p => 22 + p.val

/-- The beam encoding `line * 256 + column` (30_encoding.md R119). -/
def beamEnc (line column : Nat) : Nat := line * 256 + column

end Sys2Proof.Machine
end

