-- ==== Sys2Proof/Machine/Flags.lean ====
section
/-! DEFINITION. The core has no architectural flag and no condition code (10_state.md R58). What its operations test is
here: the conditions of a micro-instruction step (44_blitter_sequencer.md R264, R255), of the scheduler
(40_event_scheduler.md R141, R145) and of a transfer's start (R242, R243). -/

namespace Sys2Proof.Machine

/-- `first`: the word is the first of its row (R264). -/
def Blitter.isFirst (b : Blitter) : Bool := b.wc == b.wload

/-- `last`: the word is the last of its row (R264). -/
def Blitter.isLast (b : Blitter) : Bool := b.wc == 1

/-- The step's variables, computed at its start (R247). -/
def Blitter.latchStep (b : Blitter) : Blitter :=
  { b with first := b.isFirst, last := b.isLast, done := false }

/-- `wc - 1`; a free value where wc is 0, of which the spec states no result (R255, notes/assumptions/11.md). -/
def Blitter.wcLessOne (b : Blitter) : Nat := if b.wc = 0 then (Config.wcBelowZero b.wload b.hc).val else b.wc - 1

/-- `hc - 1`; a free value where hc is 0 (R255, notes/assumptions/11.md). -/
def Blitter.hcLessOne (b : Blitter) : Nat := if b.hc = 0 then (Config.hcBelowZero b.wload).val else b.hc - 1

/-- The counters after a word (R255): column, then row, with `done` when both have reached zero. -/
def Blitter.countWord (b : Blitter) : Blitter :=
  if b.wcLessOne = 0 then
    if b.hcLessOne = 0 then { b with wc := 0, hc := 0, done := true }
    else { b with wc := b.wload, hc := b.hcLessOne }
  else { b with wc := b.wcLessOne }

/-- A transfer is INITIALIZING or RUNNING (R242). -/
def Blitter.busy (b : Blitter) : Bool := b.state != .idle

/-- `earliest(s)`: the earliest admissible trigger (R141). -/
def State.earliest (s : State) (x : SlotId) : Nat :=
  match s.passing with
  | some p => if s.cfg.index x ≤ s.cfg.index p then s.clock + 1 else s.clock
  | none => s.clock

/-- The entry of a slot that is due at the pass for the current clock: an exact match (R145). -/
def State.due (s : State) (x : SlotId) : Option Entry :=
  match s.slot x with
  | some e => if e.trigger = s.clock then some e else none
  | none => none

end Sys2Proof.Machine
end

