-- ==== Sys2Proof/Machine/Scheduler.lean ====
section
/-! DEFINITION. The Event Scheduler's calls (40_event_scheduler.md R141 to R143). The pass and `advanceTo` are in Run.lean,
since they run the handlers of every block. -/

namespace Sys2Proof.Machine

/-- `scheduleNext(s, offset, kind, payload)` (R141): the kind is checked before the trigger (60_exceptions.md R347). -/
def scheduleNext (x : SlotId) (offset : Int) (kind : Nat) (payload : Payload) (s : State) : State :=
  if 7 ≤ kind ∨ kind ≠ (slotKind x).code then raiseFatal (.invalidEventKind x kind) s
  else if (s.clock : Int) + offset < (s.earliest x : Int) then
    raiseFatal (.scheduleInPast x ((s.clock : Int) + offset)) s
  else s.setSlot x (some ⟨((s.clock : Int) + offset).toNat, slotKind x, payload⟩)

/-- `schedule(slot, offset, kind, payload)` by one of the core's own blocks, with the kind its slot admits. -/
def scheduleOwn (x : SlotId) (offset : Nat) (payload : Payload) : State → State :=
  scheduleNext x (offset : Int) (slotKind x).code payload

/-- `cancel(s)` (R142). -/
def cancelSlot (x : SlotId) (s : State) : State := s.setSlot x none

/-- SCHEDULE (R141). -/
def execSchedule (x : SlotId) (offset : Int) (kind : Nat) (payload : Payload) (s : State) :
    Host.Outcome State Fault Refusal :=
  .next (unlessHalted (scheduleNext x offset kind payload) s)

/-- CANCEL (R142). -/
def execCancel (x : SlotId) (s : State) : Host.Outcome State Fault Refusal :=
  .next (unlessHalted (cancelSlot x) s)

end Sys2Proof.Machine
end

