-- ==== Sys2Proof/Machine/Beam.lean ====
section
/-! DEFINITION. The Beam Tracker (41_beam_tracker.md): `tick` and the conversions. Its HSYNC handler, which rebuilds the
allocation table, is in Run.lean. -/

namespace Sys2Proof.Machine

/-- `tick()` (R171). -/
def tick (s : State) : State :=
  if s.column + 1 = Config.cols then
    if s.line + 1 = Config.lines then
      { s with clock := s.clock + 1, column := 0, line := 0, frame := s.frame + 1 }
    else { s with clock := s.clock + 1, column := 0, line := s.line + 1 }
  else { s with clock := s.clock + 1, column := s.column + 1 }

/-- `cycleToBeam(c)` as (frame, line, column) (R173). -/
def cycleToBeam (c : Nat) : Nat × Nat × Nat :=
  (c / Config.frameCycles, c % Config.frameCycles / Config.cols, c % Config.cols)

/-- `beamToCycle(frame, line, column)`, `none` being NEVER (R174, R175). -/
def beamToCycle (frame : Nat) (line column : Int) : Option Nat :=
  if 0 ≤ line ∧ line < Config.lines ∧ 0 ≤ column ∧ column < Config.cols then
    some (frame * Config.frameCycles + line.toNat * Config.cols + column.toNat)
  else none

/-- The frame a conversion is for: the one given, or in the short form `beamToCycle(line, column)` the current frame (R174). -/
def State.frameOr (s : State) (frame : Option Nat) : Nat := frame.getD s.frame

/-- TICK (R171). -/
def execTick (s : State) : Host.Outcome State Fault Refusal := .next (unlessHalted tick s)

/-- BEAM_TO_CYCLE (R174), with its frame or in the short form: pure, the result goes to the caller. -/
def execBeamToCycle (frame : Option Nat) (line column : Int) (s : State) : Host.Outcome State Fault Refusal :=
  .next (unlessHalted (fun t => t.answer (.cycle (beamToCycle (t.frameOr frame) line column))) s)

/-- CYCLE_TO_BEAM (R173): pure, the result goes to the caller. -/
def execCycleToBeam (c : Nat) (s : State) : Host.Outcome State Fault Refusal :=
  .next (unlessHalted (fun t => t.answer (.beam (cycleToBeam c).1 (cycleToBeam c).2.1 (cycleToBeam c).2.2)) s)

end Sys2Proof.Machine
end

