-- ==== Sys2Proof/Machine/Allocator.lean ====
section
/-! DEFINITION. The DMA Slot Allocator (42_slot_allocator.md): `rebuild`. -/

namespace Sys2Proof.Machine

/-! ### The owner table -/

/-- `owner[c] <- o` for every column of the list that `hit` selects; `c` is the column of the list's head. -/
def paintFrom (hit : Nat → Bool) (o : Owner) : Nat → List Owner → List Owner
  | _, [] => []
  | c, x :: xs => (if hit c then o else x) :: paintFrom hit o (c + 1) xs

/-- `owner[c] <- o` for every column that `hit` selects. -/
def paint (hit : Nat → Bool) (o : Owner) (t : List Owner) : List Owner := paintFrom hit o 0 t

/-- The four audio channels. -/
def audioChannels : List (Fin 4) := [0, 1, 2, 3]

/-- The sixteen sprite slots, in the order of R190. -/
def spriteSlots : List (Fin 8 × Fin 2) :=
  [(0, 0), (0, 1), (1, 0), (1, 1), (2, 0), (2, 1), (3, 0), (3, 1),
   (4, 0), (4, 1), (5, 0), (5, 1), (6, 0), (6, 1), (7, 0), (7, 1)]

/-- The planes in descending order (R195). -/
def planesDescending : List (Fin 6) := [5, 4, 3, 2, 1, 0]

/-- The disk slots, when DSKEN (R190, R193). -/
def placeDisk (cfg : Config) (dmacon : Word) (t : List Owner) : List Owner :=
  if dmacon.getLsbD 4 then paint (fun c => cfg.fixedSlots.disk.contains c) .disk t else t

/-- One audio slot, when AUDnEN (R190, R193). -/
def placeAudio (cfg : Config) (dmacon : Word) (t : List Owner) (n : Fin 4) : List Owner :=
  if dmacon.getLsbD n.val then paint (fun c => c == cfg.fixedSlots.aud[n]) (.aud n) t else t

/-- One sprite slot (R190, R193). -/
def placeSprite (cfg : Config) (t : List Owner) (x : Fin 8 × Fin 2) : List Owner :=
  paint (fun c => c == (cfg.fixedSlots.spr[x.1])[x.2]) (.spr x.1 x.2) t

/-- The sprite slots, when SPREN (R190, R193). -/
def placeSprites (cfg : Config) (dmacon : Word) (t : List Owner) : List Owner :=
  if dmacon.getLsbD 5 then spriteSlots.foldl (placeSprite cfg) t else t

/-- The stride of the resolution (R195). -/
def strideOf (hires : Bool) : Nat := if hires then Config.hiresStride else Config.loresStride

/-- How many planes the resolution places (R195, R197). -/
def planeCount (cfg : Config) (hires : Bool) (bpu : Nat) : Nat :=
  min bpu (if hires then cfg.hiresMaxPlanes.val else Config.maxPlanes)

/-- The offset of a plane within the stride (R196, R197). High resolution has four offsets, and no count
reaches planes 5 and 6. -/
def planeOffset (cfg : Config) (hires : Bool) (p : Fin 6) : Nat :=
  if hires then (if h : p.val < 4 then cfg.hiresOffset[p.val] else 0) else cfg.loresOffset[p]

/-- A column of the fetch window [start, stop) at a plane's offset of the stride, which counts from the start (R194,
R195). -/
def planeHit (start stop stride offset c : Nat) : Bool :=
  decide (start ≤ c) && decide (c < stop) && ((c - start) % stride == offset)

/-- One plane's slots, when the count reaches it (R195). -/
def placePlane (cfg : Config) (ddfstrt ddfstop : Word) (hires : Bool) (bpu : Nat) (t : List Owner) (p : Fin 6) :
    List Owner :=
  if p.val < planeCount cfg hires bpu then
    paint (planeHit (windowColumn ddfstrt) (windowColumn ddfstop) (strideOf hires) (planeOffset cfg hires p)) (.bpl p) t
  else t

/-- `placeBitplanes(hires, bpu)`, when BPLEN and the count is not 0 (R190, R195). -/
def placeBitplanes (cfg : Config) (dmacon ddfstrt ddfstop : Word) (hires : Bool) (bpu : Nat) (t : List Owner) :
    List Owner :=
  if dmacon.getLsbD 8 ∧ 0 < bpu then planesDescending.foldl (placePlane cfg ddfstrt ddfstop hires bpu) t else t

/-- The allocation table `rebuild` computes (R190): all NONE unless DMAEN, then disk, audio, sprites and bitplanes, a later
placement replacing an earlier one (R198). -/
def ownerTable (cfg : Config) (dmacon ddfstrt ddfstop : Word) (hires : Bool) (bpu : Nat) : List Owner :=
  if dmacon.getLsbD 9 then
    placeBitplanes cfg dmacon ddfstrt ddfstop hires bpu
      (placeSprites cfg dmacon
        (audioChannels.foldl (placeAudio cfg dmacon)
          (placeDisk cfg dmacon (List.replicate Config.cols .none))))
  else List.replicate Config.cols .none

/-! ### The companion tables (R199) -/

/-- The right-to-left scan over the columns from `c`: `next` for each, and the least populated column of them. -/
def scanNext : Nat → List Owner → List (Option Nat) × Option Nat
  | _, [] => ([], none)
  | c, o :: os =>
    ((scanNext (c + 1) os).2 :: (scanNext (c + 1) os).1,
      if o = .none then (scanNext (c + 1) os).2 else some c)

/-- The greatest column from `c` on that plane `p` owns. -/
def scanLast (p : Fin 6) : Nat → List Owner → Option Nat
  | _, [] => none
  | c, o :: os =>
    match scanLast p (c + 1) os with
    | some d => some d
    | none => if o = .bpl p then some c else none

/-- `lastFetch[1..6]` of a table. -/
def lastFetchOf (t : List Owner) : Vector (Option Nat) 6 :=
  #v[scanLast 0 0 t, scanLast 1 0 t, scanLast 2 0 t, scanLast 3 0 t, scanLast 4 0 t, scanLast 5 0 t]

/-- The owner of a column; a column outside the table has none. -/
def State.ownerAt (s : State) (c : Nat) : Owner := (s.owner[c]?).getD .none

/-- `next[c]`; a column outside the table has no next one. -/
def State.nextAt (s : State) (c : Nat) : Option Nat := (s.next[c]?).getD none

/-- The new table and its companions, `buildNext()` (R199). -/
def State.setTable (s : State) (t : List Owner) : State :=
  { s with owner := t, next := (scanNext 0 t).1, first := (scanNext 0 t).2, lastFetch := lastFetchOf t }

/-! ### rebuild -/

/-- The column the DMA slot is moved to after a rebuild (R200). -/
def State.dmaTarget (s : State) : Option Nat :=
  if s.earliest .dma = s.clock then
    if s.ownerAt s.column ≠ .none then some s.column else s.nextAt s.column
  else s.nextAt s.column

/-- `rescheduleDMA()` (R200). -/
def rescheduleDma (s : State) : State :=
  match s.dmaTarget with
  | none => cancelSlot .dma s
  | some c => scheduleNext .dma ((c : Int) - (s.column : Int)) EventKind.dmaFetch.code (BitVec.ofNat 64 c) s

/-- The table of the present inputs (R190, R201). -/
def State.currentTable (s : State) : List Owner :=
  ownerTable s.cfg s.dmacon s.ddfstrt s.ddfstop s.pixel.hires s.pixel.bpu

/-- `rebuild()` (R190): the plane count is checked before the table is touched (R191). -/
def rebuild (s : State) : State :=
  if Config.maxPlanes < s.pixel.bpu then raiseFatal (.bpuOutOfRange s.pixel.bpu) s
  else rescheduleDma (s.setTable s.currentTable)

/-- REBUILD (R190). -/
def execRebuild (s : State) : Host.Outcome State Fault Refusal := .next (unlessHalted rebuild s)

end Sys2Proof.Machine
end

