-- ==== Sys2Proof/Machine/DmaDispatcher.lean ====
section
/-! DEFINITION. The DMA Dispatcher (43_dma_dispatcher.md): the handler of a DMA_FETCH entry. -/

namespace Sys2Proof.Machine

/-- `planeMod(p)`: bpl1mod for planes 1, 3, 5, bpl2mod for planes 2, 4, 6 (R223). -/
def State.planeMod (s : State) (p : Fin 6) : Word :=
  if p.val % 2 = 0 then s.bpl1mod else s.bpl2mod

/-- The modulo a plane's fetch at a column adds: planeMod at the plane's last fetch of the line, else 0 (R222). -/
def State.fetchModulo (s : State) (p : Fin 6) (c : Nat) : Word :=
  if s.lastFetch[p] = some c then s.planeMod p else 0

/-- The fetch common to every channel: the word at the pointer is read and the pointer advances (R221). -/
def State.fetchThrough (s : State) (p : PtrId) (m : Word) : State :=
  (s.noteRead (s.ptr p)).setPtr p (adv (s.ptr p) m)

/-- `bplFetch(p, c)` (R222). -/
def bplFetch (p : Fin 6) (c : Nat) (s : State) : State :=
  let t := { s.fetchThrough (.bpl p) (s.fetchModulo p c) with
    bpldat := s.bpldat.set p (s.wordAt s.bplpt[p]) }
  if p = 0 then t.log (.notify .plane1Data) else t

/-- An audio slot (R224). -/
def audFetch (n : Fin 4) (s : State) : State :=
  { s.fetchThrough (.aud n) 0 with auddat := s.auddat.set n (s.wordAt s.audpt[n]) }

/-- A sprite slot (R225). -/
def sprFetch (n : Fin 8) (k : Fin 2) (s : State) : State :=
  { s.fetchThrough (.spr n) 0 with sprdat := s.sprdat.set n (s.sprdat[n].set k (s.wordAt s.sprpt[n])) }

/-- A disk slot (R225). -/
def dskFetch (s : State) : State :=
  { s.fetchThrough .dsk 0 with dskdat := s.wordAt s.dskpt }

/-- The transfer of an owned column (R220). -/
def transfer (o : Owner) (c : Nat) (s : State) : State :=
  match o with
  | .none => raiseFatal (.dmaUnownedColumn c) s
  | .bpl p => bplFetch p c s
  | .aud n => audFetch n s
  | .spr n k => sprFetch n k s
  | .disk => dskFetch s

/-- The dispatcher moves on to the next populated column of the line, or leaves its slot empty (R220, R226). -/
def nextColumn (s : State) : State :=
  match s.nextAt s.column with
  | some c => scheduleNext .dma ((c : Int) - (s.column : Int)) EventKind.dmaFetch.code (BitVec.ofNat 64 c) s
  | none => cancelSlot .dma s

/-- `dmaFire(payload)` (R220): the column is the current beam column, which the payload equals (R226). -/
def dmaFire (_payload : Payload) (s : State) : State :=
  andThen (transfer (s.ownerAt s.column) s.column) nextColumn s

/-- DMA_FIRE (R220). -/
def execDmaFire (payload : Payload) (s : State) : Host.Outcome State Fault Refusal :=
  .next (unlessHalted (dmaFire payload) s)

end Sys2Proof.Machine
end

