-- ==== Sys2Proof/Machine/BlitterSequencer.lean ====
section
/-! DEFINITION. The Blitter Sequencer (44_blitter_sequencer.md): the micro-actions, the start of a transfer, the step and
the abort. -/

namespace Sys2Proof.Machine

/-! ### Micro-actions (R248 to R258) -/

/-- FETCH_C (R249). -/
def fetchC (s : State) : State :=
  { s.noteRead s.blt.cpt with
    blt.chold := s.wordAt s.blt.cpt
    blt.cpt := badv s.blt.cpt s.blt.cmod s.blt.last }

/-- FETCH_A (R250). -/
def fetchA (s : State) : State :=
  { s.noteRead s.blt.apt with
    blt.anew := s.wordAt s.blt.apt
    blt.apt := badv s.blt.apt s.blt.amod s.blt.last }

/-- FETCH_B (R251). -/
def fetchB (s : State) : State :=
  { s.noteRead s.blt.bpt with
    blt.bnew := s.wordAt s.blt.bpt
    blt.bpt := badv s.blt.bpt s.blt.bmod s.blt.last }

/-- The A word of the step after the masks (R253). -/
def Blitter.am (b : Blitter) : Word := maskedA b.anew b.bltafwm b.bltalwm b.first b.last

/-- HOLD_A (R253). -/
def holdA (s : State) : State :=
  { s with
    blt.ahold := shift s.blt.aold s.blt.am (ashOf s.blt.bltcon0)
    blt.aold := s.blt.am }

/-- HOLD_B (R254). -/
def holdB (s : State) : State :=
  { s with
    blt.bhold := shift s.blt.bold s.blt.bnew (bshOf s.blt.bltcon1)
    blt.bold := s.blt.bnew }

/-- The destination word (R255, R257). -/
def Blitter.combined (b : Blitter) : Word := minterm (lfOf b.bltcon0) b.ahold b.bhold b.chold

/-- HOLD_D: combine, then count the word (R255). -/
def holdD (s : State) : State :=
  { s with blt := { s.blt with dhold := s.blt.combined }.countWord }

/-- WRITE_D (R256). -/
def writeD (s : State) : State :=
  { s.store s.blt.dpt s.blt.dhold with blt.dpt := badv s.blt.dpt s.blt.dmod s.blt.last }

/-- The number of words of the selected program (10_state.md R54). -/
def Blitter.progLength (b : Blitter) : Nat :=
  match b.prog with
  | some p => p.length
  | none => 0

/-- A taken loop-back (R258); a target below index 0 is fatal, as is the offset 0, whose word is illegal (R113). -/
def loopBack (n : BitVec 6) (actions : BitVec 7) (s : State) : State :=
  if n = 0 ∨ s.blt.upc < n then raiseFatal (.illegalMicroword s.blt.upc (loopbackWord n actions)) s
  else { s with blt.upc := s.blt.upc - n }

/-- The advance by 1 (R258); running past the program's last word is fatal. -/
def stepUpc (s : State) : State :=
  if s.blt.progLength ≤ s.blt.upc.toNat + 1 then raiseFatal (.micropcOverrun s.blt.upc) s
  else { s with blt.upc := s.blt.upc + 1 }

/-! ### Start and abort -/

/-- The program a channel mask selects (R244, R245). -/
def State.programFor (s : State) (mask : BitVec 4) : Option (List Word) := s.cfg.microcode[mask.toFin]

/-- The Blitter once a transfer has started with a program (R246). -/
def Blitter.started (b : Blitter) (program : List Word) : Blitter :=
  { b with
    state := .initializing
    prog := some program
    chmask := channelMask b.bltcon0
    wload := widthOf b.bltsize
    wc := widthOf b.bltsize
    hc := heightOf b.bltsize
    upc := 0
    aold := 0
    bold := 0 }

/-- `blitStart()`: the checks of R242, R243, R244 in that order, then R246. -/
def blitStart (s : State) : State :=
  if s.blt.busy then raiseFatal (.blitBusy s.blt.bltsize) s
  else if blitterDma s.dmacon = false then raiseFatal (.blitDmaOff s.dmacon) s
  else if s.blt.bltcon1 &&& Config.bltModeMask ≠ 0 then raiseFatal (.unimplBlitMode s.blt.bltcon1) s
  else
    match s.programFor (channelMask s.blt.bltcon0) with
    | none => raiseFatal (.unimplBlitChannels (channelMask s.blt.bltcon0)) s
    | some program => scheduleOwn .blitter s.cfg.blitStartDelay 0 { s with blt := s.blt.started program }

/-- `abortBlit()` (R260). -/
def abortBlit (s : State) : State := { cancelSlot .blitter s with blt.state := .idle }

/-! ### One step (R247) -/

/-- The micro-word at `upc` (R247), if the program reaches that far. -/
def Blitter.currentWord (b : Blitter) : Option Word :=
  match b.prog with
  | some p => p[b.upc.toNat]?
  | none => none

/-- `f` when the action's bit is set (R248). -/
def whenBit (bit : Bool) (f : State → State) (s : State) : State := if bit then f s else s

/-- The actions of a micro-word, but for LOOPBACK, in their fixed order (R248). -/
def runActions (u : Word) (s : State) : State :=
  whenBit (u.getLsbD 6) writeD <|
  whenBit (u.getLsbD 5) holdD <|
  whenBit (u.getLsbD 4) holdB <|
  whenBit (u.getLsbD 3) holdA <|
  whenBit (u.getLsbD 1) fetchB <|
  whenBit (u.getLsbD 0) fetchA <|
  whenBit (u.getLsbD 2) fetchC s

/-- The last action: LOOPBACK or the advance by 1 (R248, R258). -/
def advanceMicro (u : Word) (s : State) : State :=
  if u.getLsbD 7 then loopBack (microOffset u) (u.extractLsb' 0 7) s else stepUpc s

/-- The end of a step: IDLE when the transfer is done, else the advance and the next step a cycle later (R247, R259). -/
def finishStep (u : Word) (s : State) : State :=
  if s.blt.done then { s with blt.state := .idle }
  else andThen (advanceMicro u) (scheduleOwn .blitter 1 0) s

/-- `bltStep()` (R247). A `upc` at which the program has no word is fatal (10_state.md R53; notes/assumptions/12.md). -/
def bltStep (s : State) : State :=
  match s.blt.currentWord with
  | none => raiseFatal (.micropcOverrun s.blt.upc) { s with blt.state := .running }
  | some u =>
    if illegalMicro u then raiseFatal (.illegalMicroword s.blt.upc u) { s with blt.state := .running }
    else finishStep u (runActions u { s with blt := { s.blt with state := .running }.latchStep })

/-! ### The meanings -/

/-- FETCH_A (R250). -/
def execFetchA (s : State) : Host.Outcome State Fault Refusal := .next (unlessHalted fetchA s)

/-- FETCH_B (R251). -/
def execFetchB (s : State) : Host.Outcome State Fault Refusal := .next (unlessHalted fetchB s)

/-- FETCH_C (R249). -/
def execFetchC (s : State) : Host.Outcome State Fault Refusal := .next (unlessHalted fetchC s)

/-- HOLD_A (R253). -/
def execHoldA (s : State) : Host.Outcome State Fault Refusal := .next (unlessHalted holdA s)

/-- HOLD_B (R254). -/
def execHoldB (s : State) : Host.Outcome State Fault Refusal := .next (unlessHalted holdB s)

/-- HOLD_D (R255). -/
def execHoldD (s : State) : Host.Outcome State Fault Refusal := .next (unlessHalted holdD s)

/-- WRITE_D (R256). -/
def execWriteD (s : State) : Host.Outcome State Fault Refusal := .next (unlessHalted writeD s)

/-- LOOPBACK (R258). -/
def execLoopback (n : BitVec 6) (actions : BitVec 7) (s : State) : Host.Outcome State Fault Refusal :=
  .next (unlessHalted (loopBack n actions) s)

/-- BLTIDLE: no action, upc advances by 1 (30_encoding.md R114). -/
def execBltidle (s : State) : Host.Outcome State Fault Refusal := .next (unlessHalted stepUpc s)

/-- BLT_START (R246). -/
def execBltStart (s : State) : Host.Outcome State Fault Refusal := .next (unlessHalted blitStart s)

/-- BLT_STEP_FIRE (R247). -/
def execBltStepFire (s : State) : Host.Outcome State Fault Refusal := .next (unlessHalted bltStep s)

end Sys2Proof.Machine
end

