-- ==== Sys2Proof/Machine/Registers.lean ====
section
/-! DEFINITION. The register interface (45_register_interface.md): pokes, peeks and access violations, and the meaning of
every register row. -/

namespace Sys2Proof.Machine

/-! ### Pokes -/

/-- dmacon after a poke of it, and the abort when DMAEN and BLTEN fall while a transfer runs (R292, 44_blitter_sequencer.md
R260). -/
def storeDmacon (v : Word) (s : State) : State :=
  if blitterDma s.dmacon ∧ blitterDma (setClear s.dmacon v) = false ∧ s.blt.busy then
    abortBlit { s with dmacon := setClear s.dmacon v }
  else { s with dmacon := setClear s.dmacon v }

/-- The BLTCON0 poke (R303). -/
def pokeBltcon0 (v : Word) (s : State) : State :=
  if s.blt.busy ∧ channelMask v ≠ s.blt.chmask then
    raiseFatal (.blitChannelsChanged s.blt.chmask (channelMask v)) s
  else { s with blt.bltcon0 := v }

/-- What a poke of each register does (R292 to R297, R303 to R305). VPOSR and VHPOSR are read-only (R301). -/
def pokeReg (r : Reg) (v : Word) (s : State) : State :=
  match r with
  | .vposr | .vhposr => raiseFatal (.writeReadOnly r) s
  | .pth p => s.setPtr p (withHighWord (s.ptr p) v)
  | .ptl p => s.setPtr p (withLowWord (s.ptr p) v)
  | .mod m => s.setModulo m (moduloOf v)
  | .bltcon0 => pokeBltcon0 v s
  | .bltcon1 => { s with blt.bltcon1 := v }
  | .bltafwm => { s with blt.bltafwm := v }
  | .bltalwm => { s with blt.bltalwm := v }
  | .bltsize => blitStart { s with blt.bltsize := v }
  | .ddfstrt => rebuild { s with ddfstrt := ddfOf s.cfg v }
  | .ddfstop => rebuild { s with ddfstop := ddfOf s.cfg v }
  | .dmacon => rebuild (storeDmacon v s)

/-! ### Peeks -/

/-- VPOSR: the long-frame flag, AGNUS_ID and bit 8 of the line (R298). -/
def State.vposr (s : State) : Word :=
  (1 : BitVec 1) ++ s.cfg.agnusId ++ (0 : BitVec 7) ++ (BitVec.ofNat 9 s.line).extractLsb' 8 1

/-- VHPOSR: bits 7:0 of the line and the column (R299). -/
def State.vhposr (s : State) : Word := BitVec.ofNat 8 s.line ++ BitVec.ofNat 8 s.column

/-- What a peek of each register does (R298 to R300). -/
def peekReg (r : Reg) (s : State) : State :=
  match r with
  | .vposr => s.answer (.word s.vposr)
  | .vhposr => s.answer (.word s.vhposr)
  | _ => raiseFatal (.readWriteOnly r) s

/-! ### Accesses -/

/-- A register access: the width is checked first, then the direction, then the register's own checks (60_exceptions.md
R347). Every poke and every peek is recorded (10_state.md R60), the refused ones too, before its checks
(notes/assumptions/16.md), and applied at once (R291). An access of another width is neither a poke nor a peek (00_scope.md
R21): its operands are not looked at (notes/assumptions/33.md). -/
def accessReg (r : Reg) (a : Access) (s : State) : State :=
  match a with
  | .sized _ width _ => raiseFatal (.badAccessWidth r width) s
  | .peek => peekReg r (s.log (.peek r))
  | .poke v => pokeReg r v (s.log (.poke r v))

/-! ### The meanings, in the table's order -/

/-- VPOSR (R298). -/
def execVposr (a : Access) (s : State) : Host.Outcome State Fault Refusal :=
  .next (unlessHalted (accessReg .vposr a) s)

/-- VHPOSR (R299). -/
def execVhposr (a : Access) (s : State) : Host.Outcome State Fault Refusal :=
  .next (unlessHalted (accessReg .vhposr a) s)

/-- DSKPTH (R294). -/
def execDskpth (a : Access) (s : State) : Host.Outcome State Fault Refusal :=
  .next (unlessHalted (accessReg (.pth .dsk) a) s)

/-- DSKPTL (R295). -/
def execDskptl (a : Access) (s : State) : Host.Outcome State Fault Refusal :=
  .next (unlessHalted (accessReg (.ptl .dsk) a) s)

/-- BLTCON0 (R303). -/
def execBltcon0 (a : Access) (s : State) : Host.Outcome State Fault Refusal :=
  .next (unlessHalted (accessReg .bltcon0 a) s)

/-- BLTCON1 (R304). -/
def execBltcon1 (a : Access) (s : State) : Host.Outcome State Fault Refusal :=
  .next (unlessHalted (accessReg .bltcon1 a) s)

/-- BLTAFWM (R305). -/
def execBltafwm (a : Access) (s : State) : Host.Outcome State Fault Refusal :=
  .next (unlessHalted (accessReg .bltafwm a) s)

/-- BLTALWM (R305). -/
def execBltalwm (a : Access) (s : State) : Host.Outcome State Fault Refusal :=
  .next (unlessHalted (accessReg .bltalwm a) s)

/-- BLTCPTH (R294). -/
def execBltcpth (a : Access) (s : State) : Host.Outcome State Fault Refusal :=
  .next (unlessHalted (accessReg (.pth (.blt .c)) a) s)

/-- BLTCPTL (R295). -/
def execBltcptl (a : Access) (s : State) : Host.Outcome State Fault Refusal :=
  .next (unlessHalted (accessReg (.ptl (.blt .c)) a) s)

/-- BLTBPTH (R294). -/
def execBltbpth (a : Access) (s : State) : Host.Outcome State Fault Refusal :=
  .next (unlessHalted (accessReg (.pth (.blt .b)) a) s)

/-- BLTBPTL (R295). -/
def execBltbptl (a : Access) (s : State) : Host.Outcome State Fault Refusal :=
  .next (unlessHalted (accessReg (.ptl (.blt .b)) a) s)

/-- BLTAPTH (R294). -/
def execBltapth (a : Access) (s : State) : Host.Outcome State Fault Refusal :=
  .next (unlessHalted (accessReg (.pth (.blt .a)) a) s)

/-- BLTAPTL (R295). -/
def execBltaptl (a : Access) (s : State) : Host.Outcome State Fault Refusal :=
  .next (unlessHalted (accessReg (.ptl (.blt .a)) a) s)

/-- BLTDPTH (R294). -/
def execBltdpth (a : Access) (s : State) : Host.Outcome State Fault Refusal :=
  .next (unlessHalted (accessReg (.pth (.blt .d)) a) s)

/-- BLTDPTL (R295). -/
def execBltdptl (a : Access) (s : State) : Host.Outcome State Fault Refusal :=
  .next (unlessHalted (accessReg (.ptl (.blt .d)) a) s)

/-- BLTSIZE (R297). -/
def execBltsize (a : Access) (s : State) : Host.Outcome State Fault Refusal :=
  .next (unlessHalted (accessReg .bltsize a) s)

/-- BLTCMOD (R296). -/
def execBltcmod (a : Access) (s : State) : Host.Outcome State Fault Refusal :=
  .next (unlessHalted (accessReg (.mod (.blt .c)) a) s)

/-- BLTBMOD (R296). -/
def execBltbmod (a : Access) (s : State) : Host.Outcome State Fault Refusal :=
  .next (unlessHalted (accessReg (.mod (.blt .b)) a) s)

/-- BLTAMOD (R296). -/
def execBltamod (a : Access) (s : State) : Host.Outcome State Fault Refusal :=
  .next (unlessHalted (accessReg (.mod (.blt .a)) a) s)

/-- BLTDMOD (R296). -/
def execBltdmod (a : Access) (s : State) : Host.Outcome State Fault Refusal :=
  .next (unlessHalted (accessReg (.mod (.blt .d)) a) s)

/-- DDFSTRT (R293). -/
def execDdfstrt (a : Access) (s : State) : Host.Outcome State Fault Refusal :=
  .next (unlessHalted (accessReg .ddfstrt a) s)

/-- DDFSTOP (R293). -/
def execDdfstop (a : Access) (s : State) : Host.Outcome State Fault Refusal :=
  .next (unlessHalted (accessReg .ddfstop a) s)

/-- DMACON (R292). -/
def execDmacon (a : Access) (s : State) : Host.Outcome State Fault Refusal :=
  .next (unlessHalted (accessReg .dmacon a) s)

/-- AUD0LCH (R294). -/
def execAud0lch (a : Access) (s : State) : Host.Outcome State Fault Refusal :=
  .next (unlessHalted (accessReg (.pth (.aud 0)) a) s)

/-- AUD0LCL (R295). -/
def execAud0lcl (a : Access) (s : State) : Host.Outcome State Fault Refusal :=
  .next (unlessHalted (accessReg (.ptl (.aud 0)) a) s)

/-- AUD1LCH (R294). -/
def execAud1lch (a : Access) (s : State) : Host.Outcome State Fault Refusal :=
  .next (unlessHalted (accessReg (.pth (.aud 1)) a) s)

/-- AUD1LCL (R295). -/
def execAud1lcl (a : Access) (s : State) : Host.Outcome State Fault Refusal :=
  .next (unlessHalted (accessReg (.ptl (.aud 1)) a) s)

/-- AUD2LCH (R294). -/
def execAud2lch (a : Access) (s : State) : Host.Outcome State Fault Refusal :=
  .next (unlessHalted (accessReg (.pth (.aud 2)) a) s)

/-- AUD2LCL (R295). -/
def execAud2lcl (a : Access) (s : State) : Host.Outcome State Fault Refusal :=
  .next (unlessHalted (accessReg (.ptl (.aud 2)) a) s)

/-- AUD3LCH (R294). -/
def execAud3lch (a : Access) (s : State) : Host.Outcome State Fault Refusal :=
  .next (unlessHalted (accessReg (.pth (.aud 3)) a) s)

/-- AUD3LCL (R295). -/
def execAud3lcl (a : Access) (s : State) : Host.Outcome State Fault Refusal :=
  .next (unlessHalted (accessReg (.ptl (.aud 3)) a) s)

/-- BPL1PTH (R294). -/
def execBpl1pth (a : Access) (s : State) : Host.Outcome State Fault Refusal :=
  .next (unlessHalted (accessReg (.pth (.bpl 0)) a) s)

/-- BPL1PTL (R295). -/
def execBpl1ptl (a : Access) (s : State) : Host.Outcome State Fault Refusal :=
  .next (unlessHalted (accessReg (.ptl (.bpl 0)) a) s)

/-- BPL2PTH (R294). -/
def execBpl2pth (a : Access) (s : State) : Host.Outcome State Fault Refusal :=
  .next (unlessHalted (accessReg (.pth (.bpl 1)) a) s)

/-- BPL2PTL (R295). -/
def execBpl2ptl (a : Access) (s : State) : Host.Outcome State Fault Refusal :=
  .next (unlessHalted (accessReg (.ptl (.bpl 1)) a) s)

/-- BPL3PTH (R294). -/
def execBpl3pth (a : Access) (s : State) : Host.Outcome State Fault Refusal :=
  .next (unlessHalted (accessReg (.pth (.bpl 2)) a) s)

/-- BPL3PTL (R295). -/
def execBpl3ptl (a : Access) (s : State) : Host.Outcome State Fault Refusal :=
  .next (unlessHalted (accessReg (.ptl (.bpl 2)) a) s)

/-- BPL4PTH (R294). -/
def execBpl4pth (a : Access) (s : State) : Host.Outcome State Fault Refusal :=
  .next (unlessHalted (accessReg (.pth (.bpl 3)) a) s)

/-- BPL4PTL (R295). -/
def execBpl4ptl (a : Access) (s : State) : Host.Outcome State Fault Refusal :=
  .next (unlessHalted (accessReg (.ptl (.bpl 3)) a) s)

/-- BPL5PTH (R294). -/
def execBpl5pth (a : Access) (s : State) : Host.Outcome State Fault Refusal :=
  .next (unlessHalted (accessReg (.pth (.bpl 4)) a) s)

/-- BPL5PTL (R295). -/
def execBpl5ptl (a : Access) (s : State) : Host.Outcome State Fault Refusal :=
  .next (unlessHalted (accessReg (.ptl (.bpl 4)) a) s)

/-- BPL6PTH (R294). -/
def execBpl6pth (a : Access) (s : State) : Host.Outcome State Fault Refusal :=
  .next (unlessHalted (accessReg (.pth (.bpl 5)) a) s)

/-- BPL6PTL (R295). -/
def execBpl6ptl (a : Access) (s : State) : Host.Outcome State Fault Refusal :=
  .next (unlessHalted (accessReg (.ptl (.bpl 5)) a) s)

/-- BPL1MOD (R296). -/
def execBpl1mod (a : Access) (s : State) : Host.Outcome State Fault Refusal :=
  .next (unlessHalted (accessReg (.mod .bpl1) a) s)

/-- BPL2MOD (R296). -/
def execBpl2mod (a : Access) (s : State) : Host.Outcome State Fault Refusal :=
  .next (unlessHalted (accessReg (.mod .bpl2) a) s)

/-- SPR0PTH (R294). -/
def execSpr0pth (a : Access) (s : State) : Host.Outcome State Fault Refusal :=
  .next (unlessHalted (accessReg (.pth (.spr 0)) a) s)

/-- SPR0PTL (R295). -/
def execSpr0ptl (a : Access) (s : State) : Host.Outcome State Fault Refusal :=
  .next (unlessHalted (accessReg (.ptl (.spr 0)) a) s)

/-- SPR1PTH (R294). -/
def execSpr1pth (a : Access) (s : State) : Host.Outcome State Fault Refusal :=
  .next (unlessHalted (accessReg (.pth (.spr 1)) a) s)

/-- SPR1PTL (R295). -/
def execSpr1ptl (a : Access) (s : State) : Host.Outcome State Fault Refusal :=
  .next (unlessHalted (accessReg (.ptl (.spr 1)) a) s)

/-- SPR2PTH (R294). -/
def execSpr2pth (a : Access) (s : State) : Host.Outcome State Fault Refusal :=
  .next (unlessHalted (accessReg (.pth (.spr 2)) a) s)

/-- SPR2PTL (R295). -/
def execSpr2ptl (a : Access) (s : State) : Host.Outcome State Fault Refusal :=
  .next (unlessHalted (accessReg (.ptl (.spr 2)) a) s)

/-- SPR3PTH (R294). -/
def execSpr3pth (a : Access) (s : State) : Host.Outcome State Fault Refusal :=
  .next (unlessHalted (accessReg (.pth (.spr 3)) a) s)

/-- SPR3PTL (R295). -/
def execSpr3ptl (a : Access) (s : State) : Host.Outcome State Fault Refusal :=
  .next (unlessHalted (accessReg (.ptl (.spr 3)) a) s)

/-- SPR4PTH (R294). -/
def execSpr4pth (a : Access) (s : State) : Host.Outcome State Fault Refusal :=
  .next (unlessHalted (accessReg (.pth (.spr 4)) a) s)

/-- SPR4PTL (R295). -/
def execSpr4ptl (a : Access) (s : State) : Host.Outcome State Fault Refusal :=
  .next (unlessHalted (accessReg (.ptl (.spr 4)) a) s)

/-- SPR5PTH (R294). -/
def execSpr5pth (a : Access) (s : State) : Host.Outcome State Fault Refusal :=
  .next (unlessHalted (accessReg (.pth (.spr 5)) a) s)

/-- SPR5PTL (R295). -/
def execSpr5ptl (a : Access) (s : State) : Host.Outcome State Fault Refusal :=
  .next (unlessHalted (accessReg (.ptl (.spr 5)) a) s)

/-- SPR6PTH (R294). -/
def execSpr6pth (a : Access) (s : State) : Host.Outcome State Fault Refusal :=
  .next (unlessHalted (accessReg (.pth (.spr 6)) a) s)

/-- SPR6PTL (R295). -/
def execSpr6ptl (a : Access) (s : State) : Host.Outcome State Fault Refusal :=
  .next (unlessHalted (accessReg (.ptl (.spr 6)) a) s)

/-- SPR7PTH (R294). -/
def execSpr7pth (a : Access) (s : State) : Host.Outcome State Fault Refusal :=
  .next (unlessHalted (accessReg (.pth (.spr 7)) a) s)

/-- SPR7PTL (R295). -/
def execSpr7ptl (a : Access) (s : State) : Host.Outcome State Fault Refusal :=
  .next (unlessHalted (accessReg (.ptl (.spr 7)) a) s)

end Sys2Proof.Machine
end

