-- ==== Sys2Proof/Machine/Run.lean ====
section
/-! DEFINITION. The pass, `advanceTo` and the HSYNC handler (40_event_scheduler.md R146 to R148, 41_beam_tracker.md R176),
and the host's controls and RESET (60_exceptions.md R360 to R364, 70_reset_and_hazards.md R380). -/

namespace Sys2Proof.Machine

/-! ### HSYNC (41_beam_tracker.md R176) -/

/-- The notifications of a line end, and of a frame end at line 0; none at clock 0. -/
def lineEndNotices (s : State) : State :=
  if 0 < s.clock then
    if s.line = 0 then (s.log (.notify .line)).log (.notify .frame) else s.log (.notify .line)
  else s

/-- `hsync()`. -/
def hsync (s : State) : State :=
  andThen rebuild (scheduleOwn .raster Config.cols 0) (lineEndNotices s)

/-! ### Collaborators' handlers (R143, R148, notes/assumptions/6.md) -/

/-- One action of a collaborator's handler. -/
def runCollabAct (act : CollabAct) (s : State) : State :=
  match act with
  | .schedule x offset kind payload => scheduleNext x offset kind payload s
  | .cancel x => cancelSlot x s
  | .access r a => accessReg r a s
  | .pixel answers => { s with pixel := answers }
  | .write a v => s.storeAt a v

/-- The actions of a handler in their order; a fault abandons the rest (R343). -/
def runScript : List CollabAct → State → State
  | [], s => s
  | act :: rest, s => andThen (runCollabAct act) (runScript rest) s

/-- The handler of a collaborator's event: the next script, or nothing when there is none. -/
def collabHandler (s : State) : State :=
  match s.handlers with
  | [] => s
  | script :: rest => runScript script { s with handlers := rest }

/-! ### The pass (R144 to R148) -/

/-- The handler of a slot's event (R148). An entry of a kind its slot does not admit is fatal (60_exceptions.md R340;
notes/assumptions/13.md). -/
def handler (x : SlotId) (e : Entry) (s : State) : State :=
  if e.kind ≠ slotKind x then raiseFatal (.invalidEventKind x e.kind.code) s
  else
    match x with
    | .raster => hsync s
    | .dma => dmaFire e.payload s
    | .blitter => bltStep s
    | .copper | .disk | .ciaa | .ciab | .inspection => collabHandler s

/-- The state in which a slot's handler starts: its entry cleared, the slot passing, the dispatch recorded (R146). -/
def State.dispatched (s : State) (x : SlotId) (e : Entry) : State :=
  ((s.setSlot x none).setPassing (some x)).log (.dispatch x e.kind e.payload)

/-- The dispatch of a slot, when it holds a due entry (R145, R146). -/
def dispatchSlot (x : SlotId) (s : State) : State :=
  match s.due x with
  | none => s
  | some e => handler x e (s.dispatched x e)

/-- The slots of a list in turn, up to a fault (R146). -/
def passSlots : List SlotId → State → State
  | [], s => s
  | x :: rest, s => andThen (dispatchSlot x) (passSlots rest) s

/-- `pass()` (R146), over the slots in the configured order. -/
def pass (s : State) : State := (passSlots s.cfg.slots s).setPassing none

/-- `n` cycles: a pass and a tick each, up to a fault (R147). -/
def runCycles : Nat → State → State
  | 0, s => s
  | n + 1, s => andThen pass (fun t => runCycles n (tick t)) s

/-- `advanceTo(target)`: each cycle adds 1 to the clock, so `target - clock` of them reach the target (R147). -/
def advanceTo (target : Nat) (s : State) : State := runCycles (target - s.clock) s

/-! ### The meanings -/

/-- HSYNC_FIRE (R176). -/
def execHsyncFire (s : State) : Host.Outcome State Fault Refusal := .next (unlessHalted hsync s)

/-- ADVANCE_TO (R147). -/
def execAdvanceTo (target : Nat) (s : State) : Host.Outcome State Fault Refusal :=
  .next (unlessHalted (advanceTo target) s)

/-- A host control takes effect at a clean cycle boundary only (R360). -/
def atBoundary (f : State → State) (s : State) : State := if s.passing = none then f s else s

/-- HOST_PAUSE: the run loop stops calling advanceTo; no core state changes (R361). -/
def execHostPause (s : State) : Host.Outcome State Fault Refusal :=
  .next (unlessHalted (atBoundary (fun t => { t with paused := true })) s)

/-- HOST_RESUME: the run loop calls advanceTo again; no core state changes (R361). -/
def execHostResume (s : State) : Host.Outcome State Fault Refusal :=
  .next (unlessHalted (atBoundary (fun t => { t with paused := false })) s)

/-- HOST_STEP: `advanceTo(clock + 1)` (R364). -/
def execHostStep (s : State) : Host.Outcome State Fault Refusal :=
  .next (unlessHalted (atBoundary (fun t => advanceTo (t.clock + 1) t)) s)

/-- HOST_SNAPSHOT: a copy of every state element, admitted while faulted (R341, R362). -/
def execHostSnapshot (s : State) : Host.Outcome State Fault Refusal :=
  .next (atBoundary (fun t => t.answer (.snapshot t.toCore)) s)

/-- RESET, admitted while faulted (R341, R380). -/
def execReset (s : State) : Host.Outcome State Fault Refusal :=
  .next (atBoundary State.resetCore s)

end Sys2Proof.Machine
end

