-- ==== Sys2Proof/Machine/Dispatch.lean ====
section
/-! DEFINITION. The one meaning of every operation: an arm per row of spec/opcode_table.json, in the table's order. -/

namespace Sys2Proof.Machine

def exec (i : Instr) (s : State) : Host.Outcome State Fault Refusal :=
  match i with
  | .fetchA => Sys2Proof.Machine.execFetchA s
  | .fetchB => Sys2Proof.Machine.execFetchB s
  | .fetchC => Sys2Proof.Machine.execFetchC s
  | .holdA => Sys2Proof.Machine.execHoldA s
  | .holdB => Sys2Proof.Machine.execHoldB s
  | .holdD => Sys2Proof.Machine.execHoldD s
  | .writeD => Sys2Proof.Machine.execWriteD s
  | .loopback n actions => Sys2Proof.Machine.execLoopback n actions s
  | .bltidle => Sys2Proof.Machine.execBltidle s
  | .vposr a => Sys2Proof.Machine.execVposr a s
  | .vhposr a => Sys2Proof.Machine.execVhposr a s
  | .dskpth a => Sys2Proof.Machine.execDskpth a s
  | .dskptl a => Sys2Proof.Machine.execDskptl a s
  | .bltcon0 a => Sys2Proof.Machine.execBltcon0 a s
  | .bltcon1 a => Sys2Proof.Machine.execBltcon1 a s
  | .bltafwm a => Sys2Proof.Machine.execBltafwm a s
  | .bltalwm a => Sys2Proof.Machine.execBltalwm a s
  | .bltcpth a => Sys2Proof.Machine.execBltcpth a s
  | .bltcptl a => Sys2Proof.Machine.execBltcptl a s
  | .bltbpth a => Sys2Proof.Machine.execBltbpth a s
  | .bltbptl a => Sys2Proof.Machine.execBltbptl a s
  | .bltapth a => Sys2Proof.Machine.execBltapth a s
  | .bltaptl a => Sys2Proof.Machine.execBltaptl a s
  | .bltdpth a => Sys2Proof.Machine.execBltdpth a s
  | .bltdptl a => Sys2Proof.Machine.execBltdptl a s
  | .bltsize a => Sys2Proof.Machine.execBltsize a s
  | .bltcmod a => Sys2Proof.Machine.execBltcmod a s
  | .bltbmod a => Sys2Proof.Machine.execBltbmod a s
  | .bltamod a => Sys2Proof.Machine.execBltamod a s
  | .bltdmod a => Sys2Proof.Machine.execBltdmod a s
  | .ddfstrt a => Sys2Proof.Machine.execDdfstrt a s
  | .ddfstop a => Sys2Proof.Machine.execDdfstop a s
  | .dmacon a => Sys2Proof.Machine.execDmacon a s
  | .aud0lch a => Sys2Proof.Machine.execAud0lch a s
  | .aud0lcl a => Sys2Proof.Machine.execAud0lcl a s
  | .aud1lch a => Sys2Proof.Machine.execAud1lch a s
  | .aud1lcl a => Sys2Proof.Machine.execAud1lcl a s
  | .aud2lch a => Sys2Proof.Machine.execAud2lch a s
  | .aud2lcl a => Sys2Proof.Machine.execAud2lcl a s
  | .aud3lch a => Sys2Proof.Machine.execAud3lch a s
  | .aud3lcl a => Sys2Proof.Machine.execAud3lcl a s
  | .bpl1pth a => Sys2Proof.Machine.execBpl1pth a s
  | .bpl1ptl a => Sys2Proof.Machine.execBpl1ptl a s
  | .bpl2pth a => Sys2Proof.Machine.execBpl2pth a s
  | .bpl2ptl a => Sys2Proof.Machine.execBpl2ptl a s
  | .bpl3pth a => Sys2Proof.Machine.execBpl3pth a s
  | .bpl3ptl a => Sys2Proof.Machine.execBpl3ptl a s
  | .bpl4pth a => Sys2Proof.Machine.execBpl4pth a s
  | .bpl4ptl a => Sys2Proof.Machine.execBpl4ptl a s
  | .bpl5pth a => Sys2Proof.Machine.execBpl5pth a s
  | .bpl5ptl a => Sys2Proof.Machine.execBpl5ptl a s
  | .bpl6pth a => Sys2Proof.Machine.execBpl6pth a s
  | .bpl6ptl a => Sys2Proof.Machine.execBpl6ptl a s
  | .bpl1mod a => Sys2Proof.Machine.execBpl1mod a s
  | .bpl2mod a => Sys2Proof.Machine.execBpl2mod a s
  | .spr0pth a => Sys2Proof.Machine.execSpr0pth a s
  | .spr0ptl a => Sys2Proof.Machine.execSpr0ptl a s
  | .spr1pth a => Sys2Proof.Machine.execSpr1pth a s
  | .spr1ptl a => Sys2Proof.Machine.execSpr1ptl a s
  | .spr2pth a => Sys2Proof.Machine.execSpr2pth a s
  | .spr2ptl a => Sys2Proof.Machine.execSpr2ptl a s
  | .spr3pth a => Sys2Proof.Machine.execSpr3pth a s
  | .spr3ptl a => Sys2Proof.Machine.execSpr3ptl a s
  | .spr4pth a => Sys2Proof.Machine.execSpr4pth a s
  | .spr4ptl a => Sys2Proof.Machine.execSpr4ptl a s
  | .spr5pth a => Sys2Proof.Machine.execSpr5pth a s
  | .spr5ptl a => Sys2Proof.Machine.execSpr5ptl a s
  | .spr6pth a => Sys2Proof.Machine.execSpr6pth a s
  | .spr6ptl a => Sys2Proof.Machine.execSpr6ptl a s
  | .spr7pth a => Sys2Proof.Machine.execSpr7pth a s
  | .spr7ptl a => Sys2Proof.Machine.execSpr7ptl a s
  | .schedule slot offset kind payload => Sys2Proof.Machine.execSchedule slot offset kind payload s
  | .cancel slot => Sys2Proof.Machine.execCancel slot s
  | .advanceTo target => Sys2Proof.Machine.execAdvanceTo target s
  | .tick => Sys2Proof.Machine.execTick s
  | .beamToCycle frame line column => Sys2Proof.Machine.execBeamToCycle frame line column s
  | .cycleToBeam cycle => Sys2Proof.Machine.execCycleToBeam cycle s
  | .rebuild => Sys2Proof.Machine.execRebuild s
  | .dmaFire payload => Sys2Proof.Machine.execDmaFire payload s
  | .hsyncFire => Sys2Proof.Machine.execHsyncFire s
  | .bltStart => Sys2Proof.Machine.execBltStart s
  | .bltStepFire => Sys2Proof.Machine.execBltStepFire s
  | .hostPause => Sys2Proof.Machine.execHostPause s
  | .hostResume => Sys2Proof.Machine.execHostResume s
  | .hostStep => Sys2Proof.Machine.execHostStep s
  | .hostSnapshot => Sys2Proof.Machine.execHostSnapshot s
  | .reset => Sys2Proof.Machine.execReset s

end Sys2Proof.Machine
end

