-- ==== Sys2Proof/Machine/Fetch.lean ====
section
/-! DEFINITION. How the next operation reaches the core (60_exceptions.md R349; notes/assumptions/4.md and 5.md). -/

namespace Sys2Proof.Machine

/-- What a step does next: run an operation in a state, or nothing more than the state given. -/
inductive Fetched where
  | run (i : Instr) (s : State)
  | done (s : State)
  deriving DecidableEq, Repr

/-- A packet from outside: an operation of the interface, or none of the core's (R306, R121), which changes nothing. A
micro-word is no operation of the interface: the micro-program is internal (20_memory.md R104). -/
def fetchPacket (p : Packet) (s : State) : Fetched :=
  if p.format = .uword then .done s
  else
    match decode p with
    | .ok i => .run i s
    | .error _ => .done s

/-- The next operation: the head of the inbox; with an empty inbox the run loop's `advanceTo(clock + 1)` (R364), unless it
is paused (R361). A change of the pixel component's answers and a collaborator's memory write arrive while a fault is set as
at any other time: neither is an operation that R341 refuses, and the spec does not say what becomes of them in a halted
machine (the model's choice, notes/assumptions/34.md). -/
def fetch (s : State) : Fetched :=
  match s.inbox with
  | [] => if s.paused then .done s else .run .hostStep { s with reply := .none }
  | .op p :: rest => fetchPacket p { s with inbox := rest, reply := .none }
  | .pixel answers :: rest => .done { s with inbox := rest, pixel := answers }
  | .write a v :: rest => .done (State.storeAt { s with inbox := rest } a v)

/-- Place a packet where the next step takes its operation from. -/
def State.withPacket (s : State) (p : Packet) : State := { s with inbox := .op p :: s.inbox }

/-- Place a micro-word where the Blitter's next step fetches it, followed by BLTIDLE so that upc can advance, and ask for
that step. -/
def State.withMicroWord (s : State) (u : Word) : State :=
  State.withPacket { s with blt.prog := some [u, 0], blt.upc := 0 } (encode .bltStepFire)

/-- Place a word of the opcode table where the next step runs it. -/
def State.withTableWord (s : State) (nbits w : Nat) : State :=
  if (tablePacket nbits w).format = .uword then s.withMicroWord (BitVec.ofNat 16 w)
  else s.withPacket (tablePacket nbits w)

end Sys2Proof.Machine
end

