-- ==== Sys2Proof/Machine/Pseudo.lean ====
section
/-! DEFINITION. The pseudo-instructions of 30_encoding.md R126 and R127, as the operations they expand to. They are no rows
of spec/opcode_table.json. -/

namespace Sys2Proof.Machine

/-- `POKEL XPT, a32`: the high word, then the low word (R127). -/
def pokel (p : PtrId) (a : BitVec 32) : List Instr :=
  [(Reg.pth p).instr (.poke (a.extractLsb' 16 16)), (Reg.ptl p).instr (.poke (a.extractLsb' 0 16))]

/-- `DMAON m` (R127). -/
def dmaOn (m : Word) : List Instr := [.dmacon (.poke (0x8000 ||| (m &&& Config.dmaconMask)))]

/-- `DMAOFF m` (R127). -/
def dmaOff (m : Word) : List Instr := [.dmacon (.poke (m &&& Config.dmaconMask))]

/-- `BLIT W, H`, for 1 ≤ W ≤ 64 and 1 ≤ H ≤ 1024 (R127). -/
def blit (w h : Nat) : List Instr := [.bltsize (.poke (BitVec.ofNat 16 (h % 1024 * 64 + w % 64)))]

/-- `RUN n`: `advanceTo(clock + n)` (R126). -/
def runFor (n : Nat) (s : State) : Instr := .advanceTo (s.clock + n)

/-- `WAITBLIT`: `RUN 1` while the Blitter is not IDLE, at most `fuel` times. A host-level loop, no operation of the core
(R127). -/
def waitBlit : Nat → State → Host.Outcome State Fault Refusal
  | 0, s => .next s
  | fuel + 1, s =>
    if s.blt.busy then
      match exec (runFor 1 s) s with
      | .next t => waitBlit fuel t
      | .fault f => .fault f
      | .refused r => .refused r
    else .next s

/-- The operations of a list in turn through `exec`, up to the first that does not answer a next state or that leaves the
core halted. -/
def execSeq : List Instr → State → Host.Outcome State Fault Refusal
  | [], s => .next s
  | i :: rest, s =>
    match exec i s with
    | .next t => if t.halted then .next t else execSeq rest t
    | .fault f => .fault f
    | .refused r => .refused r

end Sys2Proof.Machine
end

