-- ==== Sys2Proof/Safety.lean ====
section
/-! DEFINITION. What holds of every good state: the invariants that the spec states of registers, beam, table, slots and
Blitter, and which outside operations are those of conforming agents. -/

namespace Sys2Proof.Machine

/-! ### Registers (10_state.md R35 to R38, R49, R50, 20_memory.md R95) -/

/-- A pointer register holds an even 19-bit value (R37, R49, R95). -/
def ptrOk (p : Ptr) : Prop := p &&& Config.ptrMask = p

/-- A modulo register has bit 0 clear (R38, R50). -/
def moduloOk (v : Word) : Prop := v &&& Config.modMask = v

/-- The always-zero bits of the registers are zero (R62). -/
structure State.RegistersOk (s : State) : Prop where
  ptr     : ∀ p, ptrOk (s.ptr p)
  modulo  : ∀ m, moduloOk (s.modulo m)
  dmacon  : s.dmacon &&& Config.dmaconMask = s.dmacon
  ddfstrt : s.ddfstrt &&& s.cfg.ddfMask = s.ddfstrt
  ddfstop : s.ddfstop &&& s.cfg.ddfMask = s.ddfstop

/-! ### Beam, table, slots, Blitter -/

/-- The beam is that of the clock (41_beam_tracker.md R172). -/
def State.BeamOk (s : State) : Prop := cycleToBeam s.clock = (s.frame, s.line, s.column)

/-- The table has an entry per column and the companions are those of the table (10_state.md R43 to R45). -/
structure State.TablesOk (s : State) : Prop where
  length    : s.owner.length = Config.cols
  next      : s.next = (scanNext 0 s.owner).1
  first     : s.first = (scanNext 0 s.owner).2
  lastFetch : s.lastFetch = lastFetchOf s.owner

/-- Every pending entry is of the kind its slot admits (R32). -/
def State.KindsOk (s : State) : Prop := ∀ x e, s.slot x = some e → e.kind = slotKind x

/-- The Blitter's counters are in their ranges (R55). -/
structure Blitter.CountersOk (b : Blitter) : Prop where
  wc    : b.wc ≤ 64
  hc    : b.hc ≤ 1024
  wload : b.wload ≤ 64

/-- The invariant of a state between two steps. -/
structure State.Inv (s : State) : Prop where
  mem       : s.mem.wf = true
  passing   : s.passing = none
  registers : s.RegistersOk
  beam      : s.BeamOk
  tables    : s.TablesOk
  kinds     : s.KindsOk
  counters  : s.blt.CountersOk
  order     : s.cfg.OrderOk

/-! ### Conforming agents (40_event_scheduler.md R143, 60_exceptions.md R349) -/

/-- The slots that collaborators own (R143). -/
def collaboratorSlot : SlotId → Bool
  | .raster | .dma | .blitter => false
  | .copper | .disk | .ciaa | .ciab | .inspection => true

/-- The operations that an agent outside the core makes (R349): register accesses, scheduler calls on the collaborators'
slots, `advanceTo`, the pure conversions, the host's controls and RESET. The core's own internal operations are not
among them. -/
def externalOp : Instr → Bool
  | .fetchA | .fetchB | .fetchC | .holdA | .holdB | .holdD | .writeD | .loopback _ _ | .bltidle => false
  | .tick | .rebuild | .dmaFire _ | .hsyncFire | .bltStart | .bltStepFire => false
  | .schedule x _ _ _ | .cancel x => collaboratorSlot x
  | _ => true

/-- A handler's action on the scheduler is on a collaborator's slot (R143). -/
def CollabAct.conforming : CollabAct → Bool
  | .schedule x _ _ _ | .cancel x => collaboratorSlot x
  | .access _ _ | .pixel _ | .write _ _ => true

/-- Every operation still to arrive and every handler still to run is a conforming agent's. -/
structure State.Conforming (s : State) : Prop where
  inbox    : ∀ p i, Input.op p ∈ s.inbox → decode p = .ok i → externalOp i = true
  handlers : ∀ script ∈ s.handlers, ∀ act ∈ script, act.conforming = true

/-! ### What a running machine keeps, while no fault is set -/

/-- No pending entry's trigger has passed (40_event_scheduler.md R150). -/
def State.Timely (s : State) : Prop := ∀ x e, s.slot x = some e → s.clock ≤ e.trigger

/-- The Blitter's slot is pending exactly while a transfer is INITIALIZING or RUNNING (45_register_interface.md R309). -/
def State.BlitterLinked (s : State) : Prop := s.slot .blitter ≠ none ↔ s.blt.busy = true

/-- HSYNC is pending for the next column 0, the present one included (41_beam_tracker.md R176). -/
def State.RasterLinked (s : State) : Prop :=
  ∃ e, s.slot .raster = some e ∧ e.trigger = s.clock + (if s.column = 0 then 0 else Config.cols - s.column)

/-- A pending DMA entry is for a populated column of this line, at that column's cycle (43_dma_dispatcher.md R226). -/
def State.DmaLinked (s : State) : Prop :=
  ∀ e, s.slot .dma = some e → ∃ c, s.column ≤ c ∧ c < Config.cols ∧ s.ownerAt c ≠ .none ∧
    e.payload = BitVec.ofNat 64 c ∧ e.trigger = s.clock + (c - s.column)

end Sys2Proof.Machine
end

