-- ==== Sys2Proof/Certificates/Slice0/Obligations.lean ====
section
/-! DEFINITION. The statements for the provers. Each docstring names the rules of spec/ that the statement formalises or
rests on, and says where a clause is the model's own choice. -/

namespace Sys2Proof.Claims

open Sys2Proof.Machine

/-! ### Words the statements share, written from the spec's rules and not from the meanings -/

/-- The history with one more record at the present clock (R60). -/
def noted (s : State) (what : Happening) : List Record := s.history ++ [⟨s.clock, what⟩]

/-- The state after `raise Fatal` in a state that holds no fault (R16, R342). -/
def faulted (s : State) (f : Fatal) : State := { s with fault := some f, history := noted s (.fault f) }

/-- A micro-word that R113 calls legal. -/
def Legal (u : Word) : Prop :=
  u.extractLsb' 14 2 = 0 ∧ (u.getLsbD 7 = false → u.extractLsb' 8 6 = 0) ∧ (u.getLsbD 7 = true → u.extractLsb' 8 6 ≠ 0)

/-- `earliest(s)` of R141, with index(s) the place of a slot in the configured priority order. -/
def earliest (s : State) (x : SlotId) : Nat :=
  match s.passing with
  | some p => if s.cfg.index x ≤ s.cfg.index p then s.clock + 1 else s.clock
  | none => s.clock

/-- A column whose owner is not NONE (R21). -/
def Populated (s : State) (c : Nat) : Prop := ∃ o, s.owner[c]? = some o ∧ o ≠ .none

/-- The state in which the actions of a micro-word run: `first`, `last` and `done` computed at the step's start (R247, R264). -/
def atStep (s : State) : State :=
  { s with blt := { s.blt with state := .running, first := s.blt.wc == s.blt.wload, last := s.blt.wc == 1, done := false } }

/-- An advance of a pointer by 2 and an increment, reduced to an even 19-bit value (R95). -/
def advanced (p : Ptr) (inc : BitVec 32) : Ptr := (p + 2 + inc) &&& 0x7FFFE

/-- The word of chip memory that a pointer addresses (R93). -/
def wordAt (s : State) (p : Ptr) : Word := s.mem.readWord (chipAddr p)

/-- W of a size word, 0 meaning 64 (R241). -/
def widthIn (v : Word) : Nat := if v.extractLsb' 0 6 = 0 then 64 else (v.extractLsb' 0 6).toNat

/-- H of a size word, 0 meaning 1024 (R241). -/
def heightIn (v : Word) : Nat := if v.extractLsb' 6 10 = 0 then 1024 else (v.extractLsb' 6 10).toNat

/-- The conditions under which a start is not refused, with the program it selects (R242 to R244). -/
structure StartOk (s : State) (program : List Word) : Prop where
  idle    : s.blt.state = .idle
  dmaen   : s.dmacon.getLsbD 9 = true
  blten   : s.dmacon.getLsbD 6 = true
  mode    : s.blt.bltcon1 &&& 0x001B = 0
  program : s.cfg.microcode[(s.blt.bltcon0.extractLsb' 8 4).toFin] = some program

/-- The first step after the start delay is an admissible entry (R141): with the delay of 1 that R10 gives, always. -/
def DelayOk (s : State) : Prop := earliest s .blitter ≤ s.clock + s.cfg.blitStartDelay

/-- The state of a start before it schedules the first step (R246). -/
def begun (s : State) (program : List Word) : State :=
  { s with
    blt := { s.blt with
      state := .initializing
      prog := some program
      chmask := s.blt.bltcon0.extractLsb' 8 4
      wload := widthIn s.blt.bltsize
      wc := widthIn s.blt.bltsize
      hc := heightIn s.blt.bltsize
      upc := 0
      aold := 0
      bold := 0 } }

/-- The state a start leaves (R246). -/
def started (s : State) (program : List Word) : State :=
  { begun s program with slots := s.slots.set .blitter (some ⟨s.clock + s.cfg.blitStartDelay, .bltStep, 0⟩) }

/-- A Blitter pointer `n` words into a transfer of rows of `w` words: 2 a word, and the modulo at the end of each row, modulo
2^19 (R252, R264, R267). -/
def ptrAfter (p : Ptr) (m : Word) (w n : Nat) : Ptr :=
  (p + BitVec.ofNat 32 (2 * n) + BitVec.ofNat 32 (n / w) * sext32 m) &&& 0x7FFFE

/-- The A word of word `n` of a transfer, masked on the first and the last word of its row (R253, R264). -/
def maskedWord (r : State) (w n : Nat) : Word :=
  wordAt r r.blt.apt &&& (if n % w = 0 then r.blt.bltafwm else 0xFFFF) &&& (if n % w = w - 1 then r.blt.bltalwm else 0xFFFF)

/-- The destination word: the selected function of A and B, shifted in after their previous words, and C (R254, R257, R263). -/
def destination (r : State) (am : Word) : Word :=
  minterm (r.blt.bltcon0.extractLsb' 0 8)
    (((r.blt.aold ++ am) >>> (r.blt.bltcon0.extractLsb' 12 4).toNat).extractLsb' 0 16)
    (((r.blt.bold ++ wordAt r r.blt.bpt) >>> (r.blt.bltcon1.extractLsb' 12 4).toNat).extractLsb' 0 16)
    (wordAt r r.blt.cpt)

/-- Word `n` of a transfer that started in `s`, from the state `r` before its four steps to the state `r'` after them. -/
structure WordMoved (s r r' : State) (w n : Nat) : Prop where
  ptr     : ∀ ch : Channel, r.ptr (.blt ch) = ptrAfter (s.ptr (.blt ch)) (s.modulo (.blt ch)) w n
  fresh   : n = 0 → r.blt.aold = 0 ∧ r.blt.bold = 0
  aold    : r'.blt.aold = maskedWord r w n
  bold    : r'.blt.bold = wordAt r r.blt.bpt
  mem     : r'.mem = r.mem.writeWord (chipAddr r.blt.dpt) (destination r (maskedWord r w n))
  history : r'.history = r.history ++
    [⟨s.clock, .read (chipAddr r.blt.cpt)⟩, ⟨s.clock, .read (chipAddr r.blt.apt)⟩, ⟨s.clock, .read (chipAddr r.blt.bpt)⟩,
      ⟨s.clock, .write (chipAddr r.blt.dpt) (destination r (maskedWord r w n))⟩]

/-- The number of memory writes a history records. -/
def writes (h : List Record) : Nat := h.countP fun r => match r.what with | .write _ _ => true | _ => false

/-- The number of LINE notifications a history records. -/
def lineNotices (h : List Record) : Nat := h.countP fun r => r.what == .notify .line

/-- The number of FRAME notifications a history records. -/
def frameNotices (h : List Record) : Nat := h.countP fun r => r.what == .notify .frame

/-- `f` after an operation that ended without a fault (R16, R146). -/
def onward (o : Host.Outcome State Fault Refusal) (f : State → Host.Outcome State Fault Refusal) :
    Host.Outcome State Fault Refusal :=
  match o with
  | .next t => if t.fault = none then f t else .next t
  | .fault e => .fault e
  | .refused r => .refused r

/-- One action of a collaborator's handler: an operation of the interface, a change of the pixel component's answers, or a
write of chip memory (R143, R148; log 6, log 7, log 22). -/
def handlerAct (act : CollabAct) (s : State) : Host.Outcome State Fault Refusal :=
  match act with
  | .schedule x offset kind payload => exec (.schedule x offset kind payload) s
  | .cancel x => exec (.cancel x) s
  | .access r a => exec (r.instr a) s
  | .pixel answers => .next { s with pixel := answers }
  | .write a v => .next { s with mem := s.mem.writeWord a v, history := noted s (.write a v) }

/-- The actions of a handler in turn, up to a fault (R343). -/
def handlerScript : List CollabAct → State → Host.Outcome State Fault Refusal
  | [], s => .next s
  | act :: rest, s => onward (handlerAct act s) (handlerScript rest)

/-- The handler of a slot's event (R148): HSYNC_FIRE, DMA_FIRE, BLT_STEP_FIRE, or the owning collaborator's, which is the next
script of the state (log 6). An entry of a kind its slot does not admit is fatal (log 13). -/
def handled (x : SlotId) (e : Entry) (s : State) : Host.Outcome State Fault Refusal :=
  if e.kind ≠ slotKind x then .next (faulted s (.invalidEventKind x e.kind.code))
  else
    match x with
    | .raster => exec .hsyncFire s
    | .dma => exec (.dmaFire e.payload) s
    | .blitter => exec .bltStepFire s
    | .copper | .disk | .ciaa | .ciab | .inspection =>
      match s.handlers with
      | [] => .next s
      | script :: rest => handlerScript script { s with handlers := rest }

/-- A slot's turn in a pass (R145, R146): a due entry is cleared, its dispatch recorded, and its handler run. -/
def turn (x : SlotId) (s : State) : Host.Outcome State Fault Refusal :=
  match s.slots.get x with
  | none => .next s
  | some e =>
    if e.trigger = s.clock then
      handled x e { s with
        slots := s.slots.set x none
        passing := some x
        history := noted s (.dispatch x e.kind e.payload) }
    else .next s

/-- The turns of a list of slots: each begins in the state the one before it left, and a fault ends them (R144, R146). -/
def turns : List SlotId → State → Host.Outcome State Fault Refusal
  | [], s => .next s
  | x :: rest, s => onward (turn x s) (turns rest)

/-- The start or the stop of the fetch window (R194). -/
def window (v : Word) : Nat := min (max v.toNat 0x18) 0xD7

end Sys2Proof.Claims

section Statements

open Sys2Proof Sys2Proof.Machine

/-! ### Encodings (30_encoding.md, 45_register_interface.md section 1) -/

/-- Decoding an encoded well-formed operation gives it back, with every operand at every value the encoding admits: no bit of
a micro-word (R110), of a register access (R116, R290) or of an interface operation (R121) is dropped. -/
def Obligations.DecodeEncodeRoundTrip : Prop :=
  ∀ i : Instr, i.wellFormed = true → decode (encode i) = .ok i

/-- A micro-word that is one row of the table is that row's word and no other (R110, R112). -/
def Obligations.MicroWordHasOneRow : Prop :=
  ∀ (u : Word) (i : Instr), decodeUword u = .ok i → microWord i = some u

/-- R111: a legal micro-word decodes to the set of actions whose bit is 1, with the offset u[13:8], in the fixed order of
R248; a word that R113 calls illegal decodes to none. -/
def Obligations.MicroDecodeGivesTheActions : Prop :=
  ∀ u : Word,
    (Claims.Legal u →
      ∃ actions, decodeMicro u = .ok actions ∧
        actions.Sublist [.fetchC, .fetchA, .fetchB, .holdA, .holdB, .holdD, .writeD,
          .loopback (u.extractLsb' 8 6) (u.extractLsb' 0 7)] ∧
        (.fetchC ∈ actions ↔ u.getLsbD 2 = true) ∧ (.fetchA ∈ actions ↔ u.getLsbD 0 = true) ∧
        (.fetchB ∈ actions ↔ u.getLsbD 1 = true) ∧ (.holdA ∈ actions ↔ u.getLsbD 3 = true) ∧
        (.holdB ∈ actions ↔ u.getLsbD 4 = true) ∧ (.holdD ∈ actions ↔ u.getLsbD 5 = true) ∧
        (.writeD ∈ actions ↔ u.getLsbD 6 = true) ∧
        (.loopback (u.extractLsb' 8 6) (u.extractLsb' 0 7) ∈ actions ↔ u.getLsbD 7 = true)) ∧
    (¬ Claims.Legal u → ∃ e, decodeMicro u = .error e)

/-- R113: an illegal micro-word raises ILLEGAL_MICROWORD with (upc, u) before any of its actions. -/
def Obligations.IllegalMicroWordFaults : Prop :=
  ∀ (s : State) (program : List Word) (u : Word), s.fault = none → s.blt.prog = some program →
    program[s.blt.upc.toNat]? = some u → ¬ Claims.Legal u →
    exec .bltStepFire s = .next (Claims.faulted { s with blt.state := .running } (.illegalMicroword s.blt.upc u))

/-- Words written out from R110, R115, R116, R121 and R290 decode to what they stand for. The packet that carries a word or a
name with its operands is the model's (log 28), and the clause of the byte poke of BLTCON0 is the model's choice: the spec
gives an access of another width no packet form (log 33). -/
def Obligations.WordsOfTheSpec : Prop :=
  decodeUword 0x0004 = .ok .fetchC ∧ decodeUword 0x0001 = .ok .fetchA ∧ decodeUword 0x0002 = .ok .fetchB ∧
  decodeUword 0x0000 = .ok .bltidle ∧
  decodeMicro 0x03F8 = .ok [.holdA, .holdB, .holdD, .writeD, .loopback 3 0x78] ∧
  decodeMicro 0x03B8 = .ok [.holdA, .holdB, .holdD, .loopback 3 0x38] ∧
  decode ⟨.poke, 16, 0x096, [0x8300]⟩ = .ok (.dmacon (.poke 0x8300)) ∧
  decode ⟨.poke, 16, 0x0E0, [0xFFF1]⟩ = .ok (.bpl1pth (.poke 0xFFF1)) ∧
  decode ⟨.poke, 16, 0x13E, [0x1001]⟩ = .ok (.spr7ptl (.poke 0x1001)) ∧
  decode ⟨.peek, 16, 0x006, []⟩ = .ok (.vhposr .peek) ∧
  decode ⟨.poke, 8, 0x040, [0x12]⟩ = .ok (.bltcon0 (.sized .write 8 [0x12])) ∧
  decode ⟨.iface, 8, 0x01, [2, 1, 2, 0]⟩ = .ok (.schedule .blitter 1 2 0) ∧
  decode ⟨.iface, 8, 0x05, [100, 50]⟩ = .ok (.beamToCycle none 100 50) ∧
  decode ⟨.iface, 8, 0x10, []⟩ = .ok .reset

/-! ### The step (00_scope.md R3, 60_exceptions.md R349) -/

/-- A step runs the decoded operation: with the packet of an operation of the interface at the head of the inbox, step is exec
of the decoded instruction on the state with that packet taken and no reply yet. -/
def Obligations.StepRunsDecodedOperation : Prop :=
  ∀ (s : State) (p : Packet) (rest : List Input) (i : Instr), s.inbox = .op p :: rest → p.format ≠ .uword →
    decode p = .ok i → step s = exec i { s with inbox := rest, reply := .none }

/-- A step with no operation of the core at hand. With nothing to arrive the run loop steps one cycle (R364), or nothing
happens while it is paused (R361); a packet that is no operation of the core changes no core state; a change of
the pixel component's answers and a collaborator's memory write take their place between passes (R349, R101). Which packets
are no operations of the core is the model's inference: a register name outside R306's set and a code outside R121's, but
also a micro-word packet and operands of the wrong number or range (log 14). The inbox that orders the inputs, the pixel
answers kept in a field, the clearing of the reply, the record of the collaborator's write in the history, and that the last
two inputs arrive in a halted machine too are the model's as well (log 4, log 7, log 9, log 22, log 34). -/
def Obligations.StepWithoutOperation : Prop :=
  ∀ s : State,
    (s.inbox = [] → s.paused = false → step s = exec .hostStep { s with reply := .none }) ∧
    (s.inbox = [] → s.paused = true → step s = .next s) ∧
    (∀ p rest, s.inbox = .op p :: rest → (p.format = .uword ∨ ∃ e, decode p = .error e) →
      step s = .next { s with inbox := rest, reply := .none }) ∧
    (∀ answers rest, s.inbox = .pixel answers :: rest → step s = .next { s with inbox := rest, pixel := answers }) ∧
    (∀ a v rest, s.inbox = .write a v :: rest →
      step s = .next { s with inbox := rest, mem := s.mem.writeWord a v, history := Claims.noted s (.write a v) })

/-- R247 and R248: BLT_STEP_FIRE runs the actions of the micro-word at upc, in the order decodeMicro gives, through exec;
then the transfer ends if HOLD_D set done, else the loop-back or the advance runs and the next step is pending one cycle
later. -/
def Obligations.MicroStepRunsItsActions : Prop :=
  ∀ (s : State) (program : List Word) (u : Word) (actions : List Instr), s.fault = none →
    s.blt.prog = some program → program[s.blt.upc.toNat]? = some u → decodeMicro u = .ok actions →
    ∃ t, execSeq (actions.filter fun i => i != .loopback (u.extractLsb' 8 6) (u.extractLsb' 0 7)) (Claims.atStep s) =
        .next t ∧
      (t.blt.done = true → exec .bltStepFire s = .next { t with blt.state := .idle }) ∧
      (t.blt.done = false →
        ∃ r, exec (if u.getLsbD 7 then .loopback (u.extractLsb' 8 6) (u.extractLsb' 0 7) else .bltidle) t = .next r ∧
          (r.fault ≠ none → exec .bltStepFire s = .next r) ∧
          (r.fault = none → exec .bltStepFire s =
            .next { r with slots := r.slots.set .blitter (some ⟨s.clock + 1, .bltStep, 0⟩) }))

/-! ### Reset (70_reset_and_hazards.md R380, 10_state.md R64) -/

/-- RESET at a cycle boundary, faulted or not, gives every element of 10_state.md the value of R64 and leaves chip memory. That
`first`, `last` and `done` become false, and that the fields outside the core stay, is the model's (log 10, log 25). -/
def Obligations.ResetLeaves : Prop :=
  ∀ s : State, s.passing = none →
    exec .reset s = .next { s with
      clock := 0
      slots := { raster := some ⟨0, .hsync, 0⟩, dma := none, blitter := none, copper := none, disk := none, ciaa := none,
                 ciab := none, inspection := none }
      passing := none
      frame := 0, line := 0, column := 0
      dmacon := 0, ddfstrt := 0, ddfstop := 0
      bplpt := #v[0, 0, 0, 0, 0, 0], bpl1mod := 0, bpl2mod := 0, bpldat := #v[0, 0, 0, 0, 0, 0]
      sprpt := #v[0, 0, 0, 0, 0, 0, 0, 0]
      sprdat := #v[#v[0, 0], #v[0, 0], #v[0, 0], #v[0, 0], #v[0, 0], #v[0, 0], #v[0, 0], #v[0, 0]]
      audpt := #v[0, 0, 0, 0], auddat := #v[0, 0, 0, 0], dskpt := 0, dskdat := 0
      owner := List.replicate 227 .none, next := List.replicate 227 none, first := none
      lastFetch := #v[none, none, none, none, none, none]
      blt := { bltcon0 := 0, bltcon1 := 0, bltafwm := 0, bltalwm := 0, bltsize := 0, apt := 0, bpt := 0, cpt := 0, dpt := 0,
               amod := 0, bmod := 0, cmod := 0, dmod := 0, state := .idle, upc := 0, prog := none, chmask := 0, wc := 0,
               hc := 0, wload := 0, anew := 0, aold := 0, bnew := 0, bold := 0, ahold := 0, bhold := 0, chold := 0,
               dhold := 0, first := false, last := false, done := false }
      fault := none
      history := [] }

/-- The state right after reset meets the invariants that a step keeps, its inputs are those of conforming agents, and its
configuration holds the defaults of R10. -/
def Obligations.ResetStateIsGood : Prop :=
  State.reset.Inv ∧ State.reset.Conforming ∧ State.reset.Timely ∧ State.reset.BlitterLinked ∧ State.reset.RasterLinked ∧
    State.reset.DmaLinked ∧
    State.reset.cfg.agnusId = 0 ∧ State.reset.cfg.hiresMaxPlanes = 4 ∧ State.reset.cfg.ddfMask = 0x00FF ∧
    State.reset.cfg.blitStartDelay = 1 ∧ State.reset.cfg.peripheralOrder = #v[.disk, .ciaa, .ciab, .inspection] ∧
    State.reset.cfg.loresOffset = #v[7, 3, 5, 1, 6, 2] ∧
    State.reset.cfg.hiresOffset = #v[3, 1, 2, 0] ∧
    State.reset.cfg.fixedSlots = {
      disk := [0x07, 0x09, 0x0B]
      aud := #v[0x0D, 0x0F, 0x11, 0x13]
      spr := #v[#v[0x15, 0x17], #v[0x19, 0x1B], #v[0x1D, 0x1F], #v[0x21, 0x23],
                #v[0x25, 0x27], #v[0x29, 0x2B], #v[0x2D, 0x2F], #v[0x31, 0x33]] } ∧
    ∀ mask : BitVec 4, State.reset.cfg.microcode[mask.toFin] =
      if mask = 0xF then some [0x0004, 0x0001, 0x0002, 0x03F8]
      else if mask = 0xE then some [0x0004, 0x0001, 0x0002, 0x03B8] else none

/-! ### Event Scheduler (40_event_scheduler.md) -/

/-- R141: SCHEDULE checks the kind, then the trigger against earliest(s), then installs the entry over any other. -/
def Obligations.ScheduleInstallsOrFaults : Prop :=
  ∀ (s : State) (x : SlotId) (offset : Int) (kind : Nat) (payload : Payload), s.fault = none →
    ((7 ≤ kind ∨ kind ≠ (slotKind x).code) →
      exec (.schedule x offset kind payload) s = .next (Claims.faulted s (.invalidEventKind x kind))) ∧
    (kind = (slotKind x).code → (s.clock : Int) + offset < (Claims.earliest s x : Int) →
      exec (.schedule x offset kind payload) s =
        .next (Claims.faulted s (.scheduleInPast x ((s.clock : Int) + offset)))) ∧
    (kind = (slotKind x).code → (Claims.earliest s x : Int) ≤ (s.clock : Int) + offset →
      exec (.schedule x offset kind payload) s =
        .next { s with slots := s.slots.set x (some ⟨((s.clock : Int) + offset).toNat, slotKind x, payload⟩) })

/-- R142: CANCEL empties its slot and leaves every other slot and all else. -/
def Obligations.CancelEmptiesItsSlot : Prop :=
  ∀ (s : State) (x : SlotId), s.fault = none →
    exec (.cancel x) s = .next { s with slots := s.slots.set x none } ∧
    (s.slots.set x none).get x = none ∧ ∀ y, y ≠ x → (s.slots.set x none).get y = s.slots.get y

/-- R147: a target not after the clock is a no-op; otherwise one pass runs, and unless it faulted one tick, and the rest of
the way is ADVANCE_TO from there. What a pass is, PassRunsTheDueSlotsInOrder says. -/
def Obligations.AdvanceToRunsCycleByCycle : Prop :=
  ∀ (s : State) (target : Nat), s.fault = none →
    (target ≤ s.clock → exec (.advanceTo target) s = .next s) ∧
    (s.clock < target →
      ∃ t, exec (.advanceTo (s.clock + 1)) s = .next t ∧
        ((pass s).fault ≠ none → t = pass s ∧ t.clock = s.clock ∧ exec (.advanceTo target) s = .next t) ∧
        ((pass s).fault = none → t = tick (pass s) ∧ t.clock = s.clock + 1 ∧
          exec (.advanceTo target) s = exec (.advanceTo target) t))

/-- R147: advancing in two stages is advancing in one. -/
def Obligations.AdvanceToComposes : Prop :=
  ∀ (s t : State) (a b : Nat), a ≤ b → exec (.advanceTo a) s = .next t →
    exec (.advanceTo b) s = exec (.advanceTo b) t

/-- Where no entry falls due on the way, ADVANCE_TO changes the clock and the beam and nothing else, and ends at its target
(R145, R147, R172). -/
def Obligations.QuietCyclesMoveOnlyTheBeam : Prop :=
  ∀ (s : State) (target : Nat), s.fault = none → s.passing = none → s.BeamOk → s.clock ≤ target →
    (∀ x e, s.slots.get x = some e → e.trigger < s.clock ∨ target ≤ e.trigger) →
    exec (.advanceTo target) s = .next { s with
      clock := target
      frame := target / 71051
      line := target % 71051 / 227
      column := target % 227 }

/-- R144, R146, R148: a pass gives each slot its turn in the order RASTER, DMA, BLITTER, COPPER and then the peripheral slots as
configured, by default DISK, CIAA, CIAB, INSPECTION, whichever of them are due: a due entry is cleared and recorded, and its handler is complete before the next slot is looked at,
so an entry that a handler installs for this cycle on a later slot still fires; a fault leaves the later slots as they are.
ADVANCE_TO of the next cycle is that pass and, unless it faulted, a TICK. What a collaborator's handler does, and what an entry
of a foreign kind does, are the model's (log 6, log 13). -/
def Obligations.PassRunsTheDueSlotsInOrder : Prop :=
  Config.default.peripheralOrder.toList = [.disk, .ciaa, .ciab, .inspection] ∧
  ∀ s : State, s.fault = none →
    ∃ t, Claims.turns ([.raster, .dma, .blitter, .copper] ++ s.cfg.peripheralOrder.toList) s = .next t ∧
      pass s = { t with passing := none } ∧
      (t.fault ≠ none → exec (.advanceTo (s.clock + 1)) s = .next { t with passing := none }) ∧
      (t.fault = none → exec (.advanceTo (s.clock + 1)) s = exec .tick { t with passing := none })

/-- R151: no operation raises EMPTY_SLOT_FIRED. -/
def Obligations.EmptySlotNeverFires : Prop :=
  ∀ (i : Instr) (s t : State) (x : SlotId), s.fault ≠ some (.emptySlotFired x) → exec i s = .next t →
    t.fault ≠ some (.emptySlotFired x)

/-! ### Beam Tracker (41_beam_tracker.md) -/

/-- R171: TICK adds 1 to clock and column; column 227 wraps to the next line, line 313 to the next frame. -/
def Obligations.TickMovesTheBeam : Prop :=
  ∀ s : State, s.fault = none →
    (s.column + 1 ≠ 227 → exec .tick s = .next { s with clock := s.clock + 1, column := s.column + 1 }) ∧
    (s.column + 1 = 227 → s.line + 1 ≠ 313 →
      exec .tick s = .next { s with clock := s.clock + 1, column := 0, line := s.line + 1 }) ∧
    (s.column + 1 = 227 → s.line + 1 = 313 →
      exec .tick s = .next { s with clock := s.clock + 1, column := 0, line := 0, frame := s.frame + 1 })

/-- R173, R174, R175: the conversions return their result to the caller and change no core state; the short form of
BEAM_TO_CYCLE is for the current frame; a position out of range gives NEVER and no fault. Where the result is kept, the reply
register, is the model's (log 9). -/
def Obligations.BeamConversionsReply : Prop :=
  ∀ s : State, s.fault = none →
    (∀ (frame : Nat) (line column : Int),
      exec (.beamToCycle (some frame) line column) s = .next { s with
        reply := .cycle (if 0 ≤ line ∧ line < 313 ∧ 0 ≤ column ∧ column < 227 then
            some (frame * 71051 + line.toNat * 227 + column.toNat)
          else none) }) ∧
    (∀ line column : Int,
      exec (.beamToCycle none line column) s = .next { s with
        reply := .cycle (if 0 ≤ line ∧ line < 313 ∧ 0 ≤ column ∧ column < 227 then
            some (s.frame * 71051 + line.toNat * 227 + column.toNat)
          else none) }) ∧
    (∀ cycle : Nat,
      exec (.cycleToBeam cycle) s =
        .next { s with reply := .beam (cycle / 71051) (cycle % 71051 / 227) (cycle % 227) })

/-- R174: the conversions are exact inverses for every in-range beam position and for every cycle. -/
def Obligations.BeamConversionsAreInverses : Prop :=
  ∀ s : State, s.fault = none →
    (∀ frame line column : Nat, line < 313 → column < 227 →
      ∃ cycle, exec (.beamToCycle (some frame) line column) s = .next { s with reply := .cycle (some cycle) } ∧
        exec (.cycleToBeam cycle) s = .next { s with reply := .beam frame line column }) ∧
    (∀ cycle : Nat, ∃ frame line column : Nat,
      exec (.cycleToBeam cycle) s = .next { s with reply := .beam frame line column } ∧
        exec (.beamToCycle (some frame) line column) s = .next { s with reply := .cycle (some cycle) })

/-- R176: HSYNC notifies LINE unless the clock is 0, FRAME after it at line 0, rebuilds, and installs the next HSYNC 227
cycles later; a rebuild's fault ends it. -/
def Obligations.HsyncEndsTheLine : Prop :=
  ∀ s : State, s.fault = none →
    ∃ r, exec .rebuild { s with history := s.history ++
            (if s.clock = 0 then [] else
              if s.line = 0 then [⟨s.clock, .notify .line⟩, ⟨s.clock, .notify .frame⟩]
              else [⟨s.clock, .notify .line⟩]) } = .next r ∧
      (s.pixel.bpu ≤ 6 →
        exec .hsyncFire s = .next { r with slots := r.slots.set .raster (some ⟨s.clock + 227, .hsync, 0⟩) }) ∧
      (6 < s.pixel.bpu → exec .hsyncFire s = .next r)

/-! ### DMA Slot Allocator (42_slot_allocator.md) -/

/-- R190: a REBUILD with a plane count of 0 to 6 completes without a fault and writes the owner table, its companions and the
DMA slot, and nothing else; the table has an entry for each of the 227 columns. -/
def Obligations.RebuildWritesOnlyItsTables : Prop :=
  ∀ s : State, s.fault = none → s.pixel.bpu ≤ 6 →
    ∃ t, exec .rebuild s = .next t ∧ t.owner.length = 227 ∧ t.next.length = 227 ∧
      t = { s with
        owner := t.owner, next := t.next, first := t.first, lastFetch := t.lastFetch
        slots := s.slots.set .dma t.slots.dma }

/-- R199: after a REBUILD, next[c] is the least populated column above c or NIL, first is the least populated column or NIL,
and lastFetch[p] is the greatest column that plane p owns or NIL. -/
def Obligations.RebuildBuildsTheCompanions : Prop :=
  ∀ s t : State, s.fault = none → s.pixel.bpu ≤ 6 → exec .rebuild s = .next t →
    (∀ c, c < 227 →
      (∀ d, t.next[c]? = some (some d) ↔ c < d ∧ Claims.Populated t d ∧ ∀ e, c < e → e < d → ¬ Claims.Populated t e) ∧
      (t.next[c]? = some none ↔ ∀ e, c < e → ¬ Claims.Populated t e)) ∧
    (∀ d, t.first = some d ↔ Claims.Populated t d ∧ ∀ e, e < d → ¬ Claims.Populated t e) ∧
    (t.first = none ↔ ∀ e, ¬ Claims.Populated t e) ∧
    (∀ (p : Fin 6) (d : Nat), t.lastFetch[p] = some d ↔
      t.owner[d]? = some (.bpl p) ∧ ∀ e, d < e → t.owner[e]? ≠ some (.bpl p)) ∧
    (∀ p : Fin 6, t.lastFetch[p] = none ↔ ∀ e : Nat, t.owner[e]? ≠ some (.bpl p))

/-- R200: after a REBUILD the DMA slot is on the present column if that is populated and not already passed in this cycle, else
on the next populated column of the line, else empty. -/
def Obligations.RebuildReschedulesDma : Prop :=
  ∀ s t : State, s.fault = none → s.pixel.bpu ≤ 6 → s.column < 227 → exec .rebuild s = .next t →
    (Claims.earliest s .dma = s.clock ∧ Claims.Populated t s.column →
      t.slots.dma = some ⟨s.clock, .dmaFetch, BitVec.ofNat 64 s.column⟩) ∧
    (¬ (Claims.earliest s .dma = s.clock ∧ Claims.Populated t s.column) →
      (∀ c, t.next[s.column]? = some (some c) →
        t.slots.dma = some ⟨s.clock + (c - s.column), .dmaFetch, BitVec.ofNat 64 c⟩) ∧
      (t.next[s.column]? = some none → t.slots.dma = none))

/-- R194 to R197: with the default offsets, after a REBUILD plane p owns exactly the columns of the clamped window [start,
stop) at its offset of the stride, when DMAEN and BPLEN are set and the plane is below the count (in high resolution at most
HIRES_MAX_PLANES, by default 4). -/
def Obligations.BitplaneColumns : Prop :=
  Config.default.hiresMaxPlanes = 4 ∧
  ∀ s t : State, s.fault = none → s.pixel.bpu ≤ 6 → s.cfg.loresOffset = #v[7, 3, 5, 1, 6, 2] →
    s.cfg.hiresOffset = #v[3, 1, 2, 0] → exec .rebuild s = .next t →
    ∀ (c : Nat) (p : Fin 6), t.owner[c]? = some (.bpl p) ↔
      s.dmacon.getLsbD 9 = true ∧ s.dmacon.getLsbD 8 = true ∧
      Claims.window s.ddfstrt ≤ c ∧ c < Claims.window s.ddfstop ∧
      (if s.pixel.hires then
        p.val < min s.pixel.bpu s.cfg.hiresMaxPlanes.val ∧ some ((c - Claims.window s.ddfstrt) % 4) = [3, 1, 2, 0][p.val]?
      else
        p.val < s.pixel.bpu ∧ some ((c - Claims.window s.ddfstrt) % 8) = [7, 3, 5, 1, 6, 2][p.val]?)

/-- R190, R192, R193: with the default fixed slots, a column that no bitplane owns is a disk, audio or sprite column exactly
when R193 places it there and DMAEN and the channel's own enable are set. -/
def Obligations.FixedColumns : Prop :=
  ∀ s t : State, s.fault = none → s.pixel.bpu ≤ 6 → s.cfg.fixedSlots = Config.defaultFixedSlots →
    exec .rebuild s = .next t →
    ∀ c : Nat, (∀ p, t.owner[c]? ≠ some (.bpl p)) →
      (t.owner[c]? = some .disk ↔
        s.dmacon.getLsbD 9 = true ∧ s.dmacon.getLsbD 4 = true ∧ (c = 0x07 ∨ c = 0x09 ∨ c = 0x0B)) ∧
      (∀ n : Fin 4, t.owner[c]? = some (.aud n) ↔
        s.dmacon.getLsbD 9 = true ∧ s.dmacon.getLsbD n.val = true ∧ c = 0x0D + 2 * n.val) ∧
      (∀ (n : Fin 8) (k : Fin 2), t.owner[c]? = some (.spr n k) ↔
        s.dmacon.getLsbD 9 = true ∧ s.dmacon.getLsbD 5 = true ∧ c = 0x15 + 4 * n.val + 2 * k.val)

/-- R192: with the master enable clear, a REBUILD leaves the table empty and the DMA slot cancelled, whatever the other bits. -/
def Obligations.NoDmaWithoutTheMasterEnable : Prop :=
  ∀ s : State, s.fault = none → s.pixel.bpu ≤ 6 → s.dmacon.getLsbD 9 = false →
    exec .rebuild s = .next { s with
      owner := List.replicate 227 .none
      next := List.replicate 227 none
      first := none
      lastFetch := #v[none, none, none, none, none, none]
      slots := s.slots.set .dma none }

/-- R191: a plane count above 6 raises BPU_OUT_OF_RANGE before the table is touched. -/
def Obligations.PlaneCountAboveSixFaults : Prop :=
  ∀ s : State, s.fault = none → 6 < s.pixel.bpu →
    exec .rebuild s = .next (Claims.faulted s (.bpuOutOfRange s.pixel.bpu))

/-- R201: a second REBUILD changes nothing, and the tables are functions of dmacon, ddfstrt, ddfstop, the resolution and the
plane count (and the configuration) alone. -/
def Obligations.RebuildIsIdempotent : Prop :=
  (∀ s t : State, exec .rebuild s = .next t → exec .rebuild t = .next t) ∧
  (∀ s t s' t' : State, s.fault = none → s'.fault = none → s.pixel.bpu ≤ 6 → s.pixel = s'.pixel → s.dmacon = s'.dmacon →
    s.ddfstrt = s'.ddfstrt → s.ddfstop = s'.ddfstop → s.cfg = s'.cfg → exec .rebuild s = .next t →
    exec .rebuild s' = .next t' →
    t.owner = t'.owner ∧ t.next = t'.next ∧ t.first = t'.first ∧ t.lastFetch = t'.lastFetch ∧
      (s.clock = s'.clock → s.column = s'.column → s.passing = s'.passing → t.slots.dma = t'.slots.dma))

/-! ### DMA Dispatcher (43_dma_dispatcher.md) -/

/-- R220 to R223: DMA_FIRE at a bitplane column reads the plane's word, advances its pointer by 2 and, at the plane's last fetch
of the line, by the plane's modulo, notifies the pixel component for plane 1, and moves the DMA slot to the next populated
column or empties it. The `next` table is one whose entry lies after its column, as R44 says. -/
def Obligations.DmaFireFetchesABitplane : Prop :=
  ∀ (s : State) (payload : Payload) (p : Fin 6) (n : Option Nat), s.fault = none →
    s.owner[s.column]? = some (.bpl p) → s.next[s.column]? = some n → (∀ c, n = some c → s.column < c) →
    exec (.dmaFire payload) s = .next { s with
      bpldat := s.bpldat.set p (Claims.wordAt s s.bplpt[p])
      bplpt := s.bplpt.set p (Claims.advanced s.bplpt[p]
        (if s.lastFetch[p] = some s.column then
          sext32 (if p = 0 ∨ p = 2 ∨ p = 4 then s.bpl1mod else s.bpl2mod) else 0))
      history := s.history ++ [⟨s.clock, .read (chipAddr s.bplpt[p])⟩] ++
        (if p = 0 then [⟨s.clock, .notify .plane1Data⟩] else [])
      slots := s.slots.set .dma (n.map fun c => ⟨s.clock + (c - s.column), .dmaFetch, BitVec.ofNat 64 c⟩) }

/-- R220, R221, R224, R225: DMA_FIRE at an audio, sprite or disk column reads one word into the channel's latch and advances its
pointer by 2, with no modulo and no notification; at a column that nothing owns it raises DMA_UNOWNED_COLUMN. -/
def Obligations.DmaFireFetchesTheOthers : Prop :=
  ∀ (s : State) (payload : Payload) (n : Option Nat), s.fault = none →
    s.next[s.column]? = some n → (∀ c, n = some c → s.column < c) →
    (∀ k : Fin 4, s.owner[s.column]? = some (.aud k) → exec (.dmaFire payload) s = .next { s with
      auddat := s.auddat.set k (Claims.wordAt s s.audpt[k])
      audpt := s.audpt.set k (Claims.advanced s.audpt[k] 0)
      history := Claims.noted s (.read (chipAddr s.audpt[k]))
      slots := s.slots.set .dma (n.map fun c => ⟨s.clock + (c - s.column), .dmaFetch, BitVec.ofNat 64 c⟩) }) ∧
    (∀ (k : Fin 8) (j : Fin 2), s.owner[s.column]? = some (.spr k j) → exec (.dmaFire payload) s = .next { s with
      sprdat := s.sprdat.set k (s.sprdat[k].set j (Claims.wordAt s s.sprpt[k]))
      sprpt := s.sprpt.set k (Claims.advanced s.sprpt[k] 0)
      history := Claims.noted s (.read (chipAddr s.sprpt[k]))
      slots := s.slots.set .dma (n.map fun c => ⟨s.clock + (c - s.column), .dmaFetch, BitVec.ofNat 64 c⟩) }) ∧
    (s.owner[s.column]? = some .disk → exec (.dmaFire payload) s = .next { s with
      dskdat := Claims.wordAt s s.dskpt
      dskpt := Claims.advanced s.dskpt 0
      history := Claims.noted s (.read (chipAddr s.dskpt))
      slots := s.slots.set .dma (n.map fun c => ⟨s.clock + (c - s.column), .dmaFetch, BitVec.ofNat 64 c⟩) }) ∧
    (s.owner[s.column]? = some .none →
      exec (.dmaFire payload) s = .next (Claims.faulted s (.dmaUnownedColumn s.column)))

/-! ### Blitter Sequencer (44_blitter_sequencer.md) -/

/-- R246: BLT_START with the preconditions of R242 to R244 met, the first step pending after BLIT_START_DELAY, by default 1. The last
clause is the model's choice (log 8): with a configured delay of 0, inside a pass that has reached the Blitter's slot, the
first step would be in the past, and SCHEDULE_IN_PAST is raised with the start's registers already written. -/
def Obligations.BltStartBegins : Prop :=
  Config.default.blitStartDelay = 1 ∧
  ∀ (s : State) (program : List Word), s.fault = none → Claims.StartOk s program →
    (Claims.DelayOk s → exec .bltStart s = .next (Claims.started s program)) ∧
    (¬ Claims.DelayOk s → exec .bltStart s =
      .next (Claims.faulted (Claims.begun s program)
        (.scheduleInPast .blitter ((s.clock : Int) + s.cfg.blitStartDelay))))

/-- R242, R243, R244, R347: a start that is refused raises the first fault in the order BLIT_BUSY, BLIT_DMA_OFF,
UNIMPL_BLIT_MODE, UNIMPL_BLIT_CHANNELS, and changes nothing else. -/
def Obligations.BltStartRefusesInOrder : Prop :=
  ∀ s : State, s.fault = none →
    (s.blt.state ≠ .idle → exec .bltStart s = .next (Claims.faulted s (.blitBusy s.blt.bltsize))) ∧
    (s.blt.state = .idle → (s.dmacon.getLsbD 9 = false ∨ s.dmacon.getLsbD 6 = false) →
      exec .bltStart s = .next (Claims.faulted s (.blitDmaOff s.dmacon))) ∧
    (s.blt.state = .idle → s.dmacon.getLsbD 9 = true → s.dmacon.getLsbD 6 = true → s.blt.bltcon1 &&& 0x001B ≠ 0 →
      exec .bltStart s = .next (Claims.faulted s (.unimplBlitMode s.blt.bltcon1))) ∧
    (s.blt.state = .idle → s.dmacon.getLsbD 9 = true → s.dmacon.getLsbD 6 = true → s.blt.bltcon1 &&& 0x001B = 0 →
      s.cfg.microcode[(s.blt.bltcon0.extractLsb' 8 4).toFin] = none →
      exec .bltStart s = .next (Claims.faulted s (.unimplBlitChannels (s.blt.bltcon0.extractLsb' 8 4))))

/-- R249, R250, R251, R252: FETCH_C, FETCH_A and FETCH_B read the word at their pointer and advance it by 2, plus the modulo on
the row's last word. -/
def Obligations.FetchActions : Prop :=
  ∀ s : State, s.fault = none →
    exec .fetchC s = .next { s with
      blt := { s.blt with
        chold := Claims.wordAt s s.blt.cpt
        cpt := Claims.advanced s.blt.cpt (if s.blt.last then sext32 s.blt.cmod else 0) }
      history := Claims.noted s (.read (chipAddr s.blt.cpt)) } ∧
    exec .fetchA s = .next { s with
      blt := { s.blt with
        anew := Claims.wordAt s s.blt.apt
        apt := Claims.advanced s.blt.apt (if s.blt.last then sext32 s.blt.amod else 0) }
      history := Claims.noted s (.read (chipAddr s.blt.apt)) } ∧
    exec .fetchB s = .next { s with
      blt := { s.blt with
        bnew := Claims.wordAt s s.blt.bpt
        bpt := Claims.advanced s.blt.bpt (if s.blt.last then sext32 s.blt.bmod else 0) }
      history := Claims.noted s (.read (chipAddr s.blt.bpt)) }

/-- R253, R254: HOLD_A masks the A word on the first and the last word of a row and shifts it in; HOLD_B shifts B in unmasked. -/
def Obligations.HoldActions : Prop :=
  ∀ (s : State) (am : Word), s.fault = none →
    am = s.blt.anew &&& (if s.blt.first then s.blt.bltafwm else 0xFFFF) &&&
      (if s.blt.last then s.blt.bltalwm else 0xFFFF) →
    exec .holdA s = .next { s with
      blt := { s.blt with
        ahold := ((s.blt.aold ++ am) >>> (s.blt.bltcon0.extractLsb' 12 4).toNat).extractLsb' 0 16
        aold := am } } ∧
    exec .holdB s = .next { s with
      blt := { s.blt with
        bhold := ((s.blt.bold ++ s.blt.bnew) >>> (s.blt.bltcon1.extractLsb' 12 4).toNat).extractLsb' 0 16
        bold := s.blt.bnew } }

/-- R255: HOLD_D combines the destination word and counts it: within a row, at a row's end, at the end of the transfer. (A step
of a transfer never starts with a counter of 0; there the spec states no result and the model has a free value, log 11.) -/
def Obligations.HoldDCountsTheWord : Prop :=
  ∀ (s : State) (d : Word), s.fault = none →
    d = minterm (s.blt.bltcon0.extractLsb' 0 8) s.blt.ahold s.blt.bhold s.blt.chold →
    (1 < s.blt.wc → exec .holdD s = .next { s with blt := { s.blt with dhold := d, wc := s.blt.wc - 1 } }) ∧
    (s.blt.wc = 1 → 1 < s.blt.hc →
      exec .holdD s = .next { s with blt := { s.blt with dhold := d, wc := s.blt.wload, hc := s.blt.hc - 1 } }) ∧
    (s.blt.wc = 1 → s.blt.hc = 1 →
      exec .holdD s = .next { s with blt := { s.blt with dhold := d, wc := 0, hc := 0, done := true } })

/-- R256, R94: WRITE_D stores D-hold at the D pointer and advances it; the word then reads as stored, and every byte outside the
two at that address reads as before. -/
def Obligations.WriteDStoresTheWord : Prop :=
  ∀ s : State, s.fault = none → s.mem.wf = true →
    ∃ t, exec .writeD s = .next t ∧
      t = { s with
        mem := t.mem
        blt := { s.blt with dpt := Claims.advanced s.blt.dpt (if s.blt.last then sext32 s.blt.dmod else 0) }
        history := Claims.noted s (.write (chipAddr s.blt.dpt) s.blt.dhold) } ∧
      t.mem.wf = true ∧ t.mem.readWord (chipAddr s.blt.dpt) = s.blt.dhold ∧
      ∀ a : Nat, a ≠ wordAddr (chipAddr s.blt.dpt) → a ≠ wordAddr (chipAddr s.blt.dpt) + 1 →
        t.mem.readByte a = s.mem.readByte a

/-- R258, R112, R114: LOOPBACK subtracts its offset from upc, or raises ILLEGAL_MICROWORD when the target is below 0 or the offset
is 0 (an illegal word, R113); BLTIDLE does no action and advances upc by 1, or raises MICROPC_OVERRUN past the program's last word. -/
def Obligations.LoopbackAndIdleMoveUpc : Prop :=
  ∀ s : State, s.fault = none →
    (∀ (n : BitVec 6) (actions : BitVec 7), n ≠ 0 → n ≤ s.blt.upc →
      exec (.loopback n actions) s = .next { s with blt.upc := s.blt.upc - n }) ∧
    (∀ (n : BitVec 6) (actions : BitVec 7), (n = 0 ∨ s.blt.upc < n) →
      exec (.loopback n actions) s =
        .next (Claims.faulted s (.illegalMicroword s.blt.upc (loopbackWord n actions)))) ∧
    (∀ program, s.blt.prog = some program → s.blt.upc.toNat + 1 < program.length →
      exec .bltidle s = .next { s with blt.upc := s.blt.upc + 1 }) ∧
    (∀ program, s.blt.prog = some program → program.length ≤ s.blt.upc.toNat + 1 →
      exec .bltidle s = .next (Claims.faulted s (.micropcOverrun s.blt.upc)))

/-- R257: bit j of the combiner's result is the selector's bit 4a + 2b + c of the operands' bits j. -/
def Obligations.MintermIsTheSelectedFunction : Prop :=
  ∀ (lf : BitVec 8) (a b c : Word) (j : Nat), j < 16 →
    (minterm lf a b c).getLsbD j =
      lf.getLsbD (4 * (a.getLsbD j).toNat + 2 * (b.getLsbD j).toNat + (c.getLsbD j).toNat)

/-- R263: the upper bits of the shifter's result come from the previous word, the rest from the new one. -/
def Obligations.ShiftJoinsTwoWords : Prop :=
  ∀ (old new : Word) (n j : Nat), n < 16 → j < 16 →
    (shift old new n).getLsbD j = if j + n < 16 then new.getLsbD (j + n) else old.getLsbD (j + n - 16)

/-- R265, R266, R267 for the A,B,C,D program: a transfer of W words by H rows ends after exactly 4·W·H steps and not before.
Each word, row by row, is moved by its four steps: C, A and B are read at their pointers, and the selected function of the
masked and shifted words is stored at the D pointer, and nothing else of memory changes. At the end there are W·H writes and
each pointer is at its start plus H·(2W + modulo), modulo 2^19. -/
def Obligations.TransferMovesEveryWord : Prop :=
  ∀ (s t : State) (w h : Nat), s.fault = none → s.RegistersOk → Claims.DelayOk s →
    Claims.StartOk s [0x0004, 0x0001, 0x0002, 0x03F8] →
    w = Claims.widthIn s.blt.bltsize → h = Claims.heightIn s.blt.bltsize → exec .bltStart s = .next t →
    (∀ n, n < 4 * w * h →
      ∃ r, execSeq (List.replicate n .bltStepFire) t = .next r ∧ r.fault = none ∧ r.blt.state ≠ .idle) ∧
    (∀ n, n < w * h →
      ∃ r r', execSeq (List.replicate (4 * n) .bltStepFire) t = .next r ∧
        execSeq (List.replicate (4 * n + 4) .bltStepFire) t = .next r' ∧ Claims.WordMoved s r r' w n) ∧
    ∃ r, execSeq (List.replicate (4 * w * h) .bltStepFire) t = .next r ∧ r.fault = none ∧ r.blt.state = .idle ∧
      Claims.writes r.history = Claims.writes s.history + w * h ∧
      (∀ ch : Channel, r.ptr (.blt ch) =
        (s.ptr (.blt ch) + BitVec.ofNat 32 h * (BitVec.ofNat 32 (2 * w) + sext32 (s.modulo (.blt ch)))) &&& 0x7FFFE)

/-! ### Pokes and peeks (45_register_interface.md) -/

/-- R294: a poke of a pointer's high word puts bits 2:0 of the value in bits 18:16 and clears bits 31:19; every other pointer
and all else stay. One clause for all 23 pointer registers: DSKPTH, BLTA/B/C/DPTH, AUD0..3LCH, BPL1..6PTH, SPR0..7PTH. -/
def Obligations.PointerHighPokes : Prop :=
  ∀ (s : State) (p : PtrId) (v : Word), s.fault = none →
    ∃ t, exec ((Reg.pth p).instr (.poke v)) s = .next t ∧
      t.ptr p = ((v &&& 0x0007).zeroExtend 32 <<< 16) ||| (s.ptr p &&& 0x0000FFFF) ∧
      (∀ q, q ≠ p → t.ptr q = s.ptr q) ∧
      t = { s with
        dskpt := t.dskpt, audpt := t.audpt, bplpt := t.bplpt, sprpt := t.sprpt
        blt := { s.blt with apt := t.blt.apt, bpt := t.blt.bpt, cpt := t.blt.cpt, dpt := t.blt.dpt }
        history := Claims.noted s (.poke (.pth p) v) }

/-- R295: a poke of a pointer's low word stores the value with bit 0 clear in bits 15:0. One clause for all 23 pointer
registers: DSKPTL, BLTA/B/C/DPTL, AUD0..3LCL, BPL1..6PTL, SPR0..7PTL. -/
def Obligations.PointerLowPokes : Prop :=
  ∀ (s : State) (p : PtrId) (v : Word), s.fault = none →
    ∃ t, exec ((Reg.ptl p).instr (.poke v)) s = .next t ∧
      t.ptr p = (s.ptr p &&& 0xFFFF0000) ||| (v &&& 0xFFFE).zeroExtend 32 ∧
      (∀ q, q ≠ p → t.ptr q = s.ptr q) ∧
      t = { s with
        dskpt := t.dskpt, audpt := t.audpt, bplpt := t.bplpt, sprpt := t.sprpt
        blt := { s.blt with apt := t.blt.apt, bpt := t.blt.bpt, cpt := t.blt.cpt, dpt := t.blt.dpt }
        history := Claims.noted s (.poke (.ptl p) v) }

/-- R296: a poke of a modulo stores the value with bit 0 clear. One clause for all six: BPL1MOD, BPL2MOD, BLTA/B/C/DMOD. -/
def Obligations.ModuloPokes : Prop :=
  ∀ (s : State) (m : ModId) (v : Word), s.fault = none →
    ∃ t, exec ((Reg.mod m).instr (.poke v)) s = .next t ∧
      t.modulo m = v &&& 0xFFFE ∧ (∀ q, q ≠ m → t.modulo q = s.modulo q) ∧
      t = { s with
        bpl1mod := t.bpl1mod, bpl2mod := t.bpl2mod
        blt := { s.blt with amod := t.blt.amod, bmod := t.blt.bmod, cmod := t.blt.cmod, dmod := t.blt.dmod }
        history := Claims.noted s (.poke (.mod m) v) }

/-- R293: a poke of DDFSTRT or DDFSTOP stores the value masked by DDF_MASK, by default 0x00FF, and rebuilds; it completes
without a fault when the plane count is at most 6. -/
def Obligations.FetchWindowPokes : Prop :=
  Config.default.ddfMask = 0x00FF ∧
  ∀ (s : State) (v : Word), s.fault = none →
    (∃ t, exec .rebuild { s with ddfstrt := v &&& s.cfg.ddfMask, history := Claims.noted s (.poke .ddfstrt v) } = .next t ∧
      exec (.ddfstrt (.poke v)) s = .next t ∧ t.ddfstrt = v &&& s.cfg.ddfMask ∧ (s.pixel.bpu ≤ 6 → t.fault = none)) ∧
    (∃ t, exec .rebuild { s with ddfstop := v &&& s.cfg.ddfMask, history := Claims.noted s (.poke .ddfstop v) } = .next t ∧
      exec (.ddfstop (.poke v)) s = .next t ∧ t.ddfstop = v &&& s.cfg.ddfMask ∧ (s.pixel.bpu ≤ 6 → t.fault = none))

/-- R292, R260: a DMACON poke sets or clears bits 10:0 by bit 15, abandons a running transfer when DMAEN and BLTEN fall, and
rebuilds. -/
def Obligations.DmaconPoke : Prop :=
  ∀ (s : State) (v new : Word), s.fault = none →
    new = (if v.getLsbD 15 then s.dmacon ||| (v &&& 0x07FF) else s.dmacon &&& ~~~(v &&& 0x07FF)) →
    ((s.dmacon.getLsbD 9 = true ∧ s.dmacon.getLsbD 6 = true ∧ (new.getLsbD 9 = false ∨ new.getLsbD 6 = false) ∧
        s.blt.state ≠ .idle) →
      ∃ t, exec .rebuild { s with
              dmacon := new
              slots := s.slots.set .blitter none
              blt := { s.blt with state := .idle }
              history := Claims.noted s (.poke .dmacon v) } = .next t ∧
        exec (.dmacon (.poke v)) s = .next t ∧ t.dmacon = new ∧ (s.pixel.bpu ≤ 6 → t.fault = none)) ∧
    (¬ (s.dmacon.getLsbD 9 = true ∧ s.dmacon.getLsbD 6 = true ∧ (new.getLsbD 9 = false ∨ new.getLsbD 6 = false) ∧
        s.blt.state ≠ .idle) →
      ∃ t, exec .rebuild { s with dmacon := new, history := Claims.noted s (.poke .dmacon v) } = .next t ∧
        exec (.dmacon (.poke v)) s = .next t ∧ t.dmacon = new ∧ (s.pixel.bpu ≤ 6 → t.fault = none))

/-- R303, R261: a BLTCON0 poke stores the value, unless a transfer runs and the value changes the channel mask: then
BLIT_CHANNELS_CHANGED is raised and nothing is stored. R60 has every poke recorded; that the record of the refused poke stands
before its fault's is the model's (log 16). -/
def Obligations.Bltcon0Poke : Prop :=
  ∀ (s : State) (v : Word), s.fault = none →
    ((s.blt.state = .idle ∨ v.extractLsb' 8 4 = s.blt.chmask) →
      exec (.bltcon0 (.poke v)) s =
        .next { s with blt := { s.blt with bltcon0 := v }, history := Claims.noted s (.poke .bltcon0 v) }) ∧
    (s.blt.state ≠ .idle → v.extractLsb' 8 4 ≠ s.blt.chmask →
      exec (.bltcon0 (.poke v)) s =
        .next (Claims.faulted { s with history := Claims.noted s (.poke .bltcon0 v) }
          (.blitChannelsChanged s.blt.chmask (v.extractLsb' 8 4))))

/-- R304, R305: pokes of BLTCON1, BLTAFWM and BLTALWM store all 16 bits. -/
def Obligations.PlainBlitterPokes : Prop :=
  ∀ (s : State) (v : Word), s.fault = none →
    exec (.bltcon1 (.poke v)) s =
      .next { s with blt := { s.blt with bltcon1 := v }, history := Claims.noted s (.poke .bltcon1 v) } ∧
    exec (.bltafwm (.poke v)) s =
      .next { s with blt := { s.blt with bltafwm := v }, history := Claims.noted s (.poke .bltafwm v) } ∧
    exec (.bltalwm (.poke v)) s =
      .next { s with blt := { s.blt with bltalwm := v }, history := Claims.noted s (.poke .bltalwm v) }

/-- R297: a BLTSIZE poke stores the value and then starts a transfer; with the preconditions met it completes as R246 says,
and otherwise it is the start's refusal with the value stored. -/
def Obligations.BltsizePokeStartsATransfer : Prop :=
  ∀ (s stored : State) (v : Word), s.fault = none →
    stored = { s with blt := { s.blt with bltsize := v }, history := Claims.noted s (.poke .bltsize v) } →
    exec (.bltsize (.poke v)) s = exec .bltStart stored ∧
    ∀ program, Claims.StartOk s program → Claims.DelayOk s →
      exec (.bltsize (.poke v)) s = .next (Claims.started stored program)

/-- R298, R299: peeks of VPOSR and VHPOSR return the long-frame flag, the chip identification and the beam, and change nothing
but the history and the reply. The reply register, which keeps the word for the caller, is the model's (log 9). The chip
identification is whatever the configuration holds. -/
def Obligations.BeamPeeks : Prop :=
  ∀ s : State, s.fault = none → s.line < 313 → s.column < 227 →
    exec (.vposr .peek) s = .next { s with
      history := Claims.noted s (.peek .vposr)
      reply := .word (BitVec.ofNat 16 (2 ^ 15 + s.cfg.agnusId.toNat * 2 ^ 8 + s.line / 256)) } ∧
    exec (.vhposr .peek) s = .next { s with
      history := Claims.noted s (.peek .vhposr)
      reply := .word (BitVec.ofNat 16 (s.line % 256 * 256 + s.column)) }

/-- R300, R301, R302, R347: for every register of R290, a peek of a write-only register, a poke of a read-only one and an access
of a width other than 16, whatever operands it carries, raise their fault and change nothing but the fault register and the
history. That the record of a refused 16-bit access (R60) stands before its fault's, and that an access of another width is
recorded as its fault alone, is the model's (log 16), as is the form of such an access (log 33). -/
def Obligations.AccessViolations : Prop :=
  ∀ (s : State) (r : Reg), s.fault = none →
    (r ≠ .vposr → r ≠ .vhposr → exec (r.instr .peek) s =
      .next (Claims.faulted { s with history := Claims.noted s (.peek r) } (.readWriteOnly r))) ∧
    ((r = .vposr ∨ r = .vhposr) → ∀ v, exec (r.instr (.poke v)) s =
      .next (Claims.faulted { s with history := Claims.noted s (.poke r v) } (.writeReadOnly r))) ∧
    (∀ dir width operands, width ≠ 16 →
      exec (r.instr (.sized dir width operands)) s = .next (Claims.faulted s (.badAccessWidth r width)))

/-! ### Faults, host controls, the whole machine (60_exceptions.md) -/

/-- R360, R361, R362, R364: at a cycle boundary HOST_PAUSE and HOST_RESUME change the run loop's flag only, HOST_SNAPSHOT returns
a copy of every state element, faulted or not, and HOST_STEP is ADVANCE_TO of the next cycle. The run loop's flag as a field,
the reply register and what exactly a snapshot holds are the model's (log 17, log 9, log 26). -/
def Obligations.HostControls : Prop :=
  ∀ s : State, s.passing = none →
    exec .hostSnapshot s = .next { s with reply := .snapshot s.toCore } ∧
    (s.fault = none →
      exec .hostPause s = .next { s with paused := true } ∧
      exec .hostResume s = .next { s with paused := false } ∧
      ∃ t, exec (.advanceTo (s.clock + 1)) s = .next t ∧ exec .hostStep s = .next t)

/-- R341: while a fault is set every operation but HOST_SNAPSHOT and RESET is refused and changes no state; the snapshot leaves
the fault, so RESET is the only way to empty it. -/
def Obligations.HaltRefusesAllButSnapshotAndReset : Prop :=
  ∀ (i : Instr) (s : State), s.fault ≠ none → i ≠ .reset →
    (i ≠ .hostSnapshot → exec i s = .next s) ∧ (∀ t, exec i s = .next t → t.toCore = s.toCore)

/-- R342: the record of a fault that an operation raises is the last of the history, stamped with the clock that the state then
has: nothing is recorded after it and the clock does not move after it. What leaves no record is not spoken of here. -/
def Obligations.FaultRecordIsTheLast : Prop :=
  ∀ (i : Instr) (s t : State) (f : Fatal), s.fault = none → exec i s = .next t → t.fault = some f →
    t.history.getLast? = some ⟨t.clock, .fault f⟩

/-- R30, R152: no operation but TICK, ADVANCE_TO and HOST_STEP (which tick) and RESET writes the clock and the beam; none but RESET
lowers the clock. -/
def Obligations.OnlyTicksMoveTheClock : Prop :=
  ∀ (i : Instr) (s t : State), exec i s = .next t → i ≠ .reset →
    s.clock ≤ t.clock ∧
    (i ≠ .tick → i ≠ .hostStep → (∀ target, i ≠ .advanceTo target) →
      t.clock = s.clock ∧ t.frame = s.frame ∧ t.line = s.line ∧ t.column = s.column)

/-- R94, R97, R100: of the core's actions only WRITE_D stores to chip memory. An operation other than WRITE_D, BLT_STEP_FIRE
and the two that run cycles leaves memory as it is. BLT_STEP_FIRE changes at most the two bytes at the D pointer the step
began with, and nothing when its word is illegal or has no WRITE_D bit or the core is halted. The two that run cycles change
nothing when no collaborator's handler is to run (log 6) and no WRITE_D is to be stepped: the Blitter has no pending step, or
its program has no WRITE_D. And no operation at all changes memory without a WRITE record; for what a collaborator's handler
writes inside ADVANCE_TO and HOST_STEP that rests on the model's choice to record such a write (log 22). -/
def Obligations.OnlyWriteDStores : Prop :=
  ∀ (i : Instr) (s t : State), exec i s = .next t →
    (i ≠ .writeD → i ≠ .bltStepFire → i ≠ .hostStep → (∀ target, i ≠ .advanceTo target) → t.mem = s.mem) ∧
    (i = .bltStepFire → s.mem.wf = true → ∀ a : Nat, a ≠ wordAddr (chipAddr s.blt.dpt) →
      a ≠ wordAddr (chipAddr s.blt.dpt) + 1 → t.mem.readByte a = s.mem.readByte a) ∧
    (i = .bltStepFire →
      (s.fault ≠ none ∨ ∀ program u, s.blt.prog = some program → program[s.blt.upc.toNat]? = some u → Claims.Legal u →
        u.getLsbD 6 = false) →
      t.mem = s.mem) ∧
    ((i = .hostStep ∨ ∃ target, i = .advanceTo target) → s.handlers = [] →
      (s.slots.blitter = none ∨ ∀ program u, s.blt.prog = some program → u ∈ program → u.getLsbD 6 = false) →
      t.mem = s.mem) ∧
    (Claims.writes t.history = Claims.writes s.history → t.mem = s.mem)

/-- R95, R99: every read that an operation makes from a good state is at an even address. -/
def Obligations.ReadsAreAligned : Prop :=
  ∀ (i : Instr) (s t : State) (r : Record) (a : ChipAddr), s.Inv → exec i s = .next t → r ∈ t.history → r ∉ s.history →
    r.what = .read a → a.toNat % 2 = 0

/-- Every step keeps the invariant: chip memory canonical, no pass in progress, the always-zero bits of the registers zero
(R62), the beam that of the clock (R172), the companions those of the table (R43 to R45), one kind per slot (R32), the
Blitter's counters in range (R55), the priority order one of all eight slots (R31). -/
def Obligations.StepKeepsInv : Prop :=
  ∀ s t : State, s.Inv → step s = .next t → t.Inv

/-- A step of a machine whose agents conform keeps, while no fault is set: no pending entry in the past (R150), the Blitter's
slot pending exactly while a transfer runs (R309), HSYNC pending for the next column 0 (R176), the DMA entry on a
populated column at that column's cycle (R226). -/
def Obligations.ConformingStepKeepsTheLinks : Prop :=
  ∀ s t : State, s.Inv → s.Conforming → s.fault = none → s.Timely → s.BlitterLinked → s.RasterLinked → s.DmaLinked →
    step s = .next t → t.fault = none →
    t.Conforming ∧ t.Timely ∧ t.BlitterLinked ∧ t.RasterLinked ∧ t.DmaLinked

/-- R177, from any good state and not only from reset: ADVANCE_TO sends one LINE notification for each multiple of 227, and one
FRAME notification for each multiple of 71051, among the clocks whose passes it runs, clock 0 excepted. -/
def Obligations.OneNoticePerLineAndFrame : Prop :=
  ∀ (s t : State) (target : Nat), s.Inv → s.Conforming → s.fault = none → s.RasterLinked →
    exec (.advanceTo target) s = .next t → t.fault = none →
    Claims.lineNotices t.history + (s.clock - 1) / 227 = Claims.lineNotices s.history + (t.clock - 1) / 227 ∧
      Claims.frameNotices t.history + (s.clock - 1) / 71051 = Claims.frameNotices s.history + (t.clock - 1) / 71051

end Statements
end

