-- ==== Sys2Proof/Laws/State.lean ====
section
/-! SUPPORT. What each named update of the state leaves of each field: true by unfolding, tagged simp, so that no later proof
unfolds a record update. -/

namespace Sys2Proof.Machine

/-! ### `log` -/

@[simp] theorem log_toCore (s : State) (h : Happening) : (s.log h).toCore = s.toCore := rfl
@[simp] theorem log_history (s : State) (h : Happening) : (s.log h).history = s.history ++ [⟨s.clock, h⟩] := rfl
@[simp] theorem log_mem (s : State) (h : Happening) : (s.log h).mem = s.mem := rfl
@[simp] theorem log_cfg (s : State) (h : Happening) : (s.log h).cfg = s.cfg := rfl
@[simp] theorem log_pixel (s : State) (h : Happening) : (s.log h).pixel = s.pixel := rfl
@[simp] theorem log_inbox (s : State) (h : Happening) : (s.log h).inbox = s.inbox := rfl
@[simp] theorem log_handlers (s : State) (h : Happening) : (s.log h).handlers = s.handlers := rfl
@[simp] theorem log_paused (s : State) (h : Happening) : (s.log h).paused = s.paused := rfl
@[simp] theorem log_reply (s : State) (h : Happening) : (s.log h).reply = s.reply := rfl

/-! ### `answer` -/

@[simp] theorem answer_toCore (s : State) (r : Reply) : (s.answer r).toCore = s.toCore := rfl
@[simp] theorem answer_history (s : State) (r : Reply) : (s.answer r).history = s.history := rfl
@[simp] theorem answer_mem (s : State) (r : Reply) : (s.answer r).mem = s.mem := rfl
@[simp] theorem answer_cfg (s : State) (r : Reply) : (s.answer r).cfg = s.cfg := rfl
@[simp] theorem answer_pixel (s : State) (r : Reply) : (s.answer r).pixel = s.pixel := rfl
@[simp] theorem answer_inbox (s : State) (r : Reply) : (s.answer r).inbox = s.inbox := rfl
@[simp] theorem answer_handlers (s : State) (r : Reply) : (s.answer r).handlers = s.handlers := rfl
@[simp] theorem answer_paused (s : State) (r : Reply) : (s.answer r).paused = s.paused := rfl
@[simp] theorem answer_reply (s : State) (r : Reply) : (s.answer r).reply = r := rfl

/-! ### `noteRead` -/

@[simp] theorem noteRead_toCore (s : State) (p : Ptr) : (s.noteRead p).toCore = s.toCore := rfl
@[simp] theorem noteRead_history (s : State) (p : Ptr) : (s.noteRead p).history = s.history ++ [⟨s.clock, .read (chipAddr p)⟩] := rfl
@[simp] theorem noteRead_mem (s : State) (p : Ptr) : (s.noteRead p).mem = s.mem := rfl
@[simp] theorem noteRead_cfg (s : State) (p : Ptr) : (s.noteRead p).cfg = s.cfg := rfl
@[simp] theorem noteRead_pixel (s : State) (p : Ptr) : (s.noteRead p).pixel = s.pixel := rfl
@[simp] theorem noteRead_inbox (s : State) (p : Ptr) : (s.noteRead p).inbox = s.inbox := rfl
@[simp] theorem noteRead_handlers (s : State) (p : Ptr) : (s.noteRead p).handlers = s.handlers := rfl
@[simp] theorem noteRead_paused (s : State) (p : Ptr) : (s.noteRead p).paused = s.paused := rfl
@[simp] theorem noteRead_reply (s : State) (p : Ptr) : (s.noteRead p).reply = s.reply := rfl

/-! ### `storeAt` -/

@[simp] theorem storeAt_toCore (s : State) (a : ChipAddr) (v : Word) : (s.storeAt a v).toCore = s.toCore := rfl
@[simp] theorem storeAt_history (s : State) (a : ChipAddr) (v : Word) : (s.storeAt a v).history = s.history ++ [⟨s.clock, .write a v⟩] := rfl
@[simp] theorem storeAt_mem (s : State) (a : ChipAddr) (v : Word) : (s.storeAt a v).mem = s.mem.writeWord a v := rfl
@[simp] theorem storeAt_cfg (s : State) (a : ChipAddr) (v : Word) : (s.storeAt a v).cfg = s.cfg := rfl
@[simp] theorem storeAt_pixel (s : State) (a : ChipAddr) (v : Word) : (s.storeAt a v).pixel = s.pixel := rfl
@[simp] theorem storeAt_inbox (s : State) (a : ChipAddr) (v : Word) : (s.storeAt a v).inbox = s.inbox := rfl
@[simp] theorem storeAt_handlers (s : State) (a : ChipAddr) (v : Word) : (s.storeAt a v).handlers = s.handlers := rfl
@[simp] theorem storeAt_paused (s : State) (a : ChipAddr) (v : Word) : (s.storeAt a v).paused = s.paused := rfl
@[simp] theorem storeAt_reply (s : State) (a : ChipAddr) (v : Word) : (s.storeAt a v).reply = s.reply := rfl

/-! ### `store` -/

@[simp] theorem store_toCore (s : State) (p : Ptr) (v : Word) : (s.store p v).toCore = s.toCore := rfl
@[simp] theorem store_history (s : State) (p : Ptr) (v : Word) : (s.store p v).history = s.history ++ [⟨s.clock, .write (chipAddr p) v⟩] := rfl
@[simp] theorem store_mem (s : State) (p : Ptr) (v : Word) : (s.store p v).mem = s.mem.writeWord (chipAddr p) v := rfl
@[simp] theorem store_cfg (s : State) (p : Ptr) (v : Word) : (s.store p v).cfg = s.cfg := rfl
@[simp] theorem store_pixel (s : State) (p : Ptr) (v : Word) : (s.store p v).pixel = s.pixel := rfl
@[simp] theorem store_inbox (s : State) (p : Ptr) (v : Word) : (s.store p v).inbox = s.inbox := rfl
@[simp] theorem store_handlers (s : State) (p : Ptr) (v : Word) : (s.store p v).handlers = s.handlers := rfl
@[simp] theorem store_paused (s : State) (p : Ptr) (v : Word) : (s.store p v).paused = s.paused := rfl
@[simp] theorem store_reply (s : State) (p : Ptr) (v : Word) : (s.store p v).reply = s.reply := rfl

/-! ### `resetCore` -/

@[simp] theorem resetCore_toCore (s : State) : (s.resetCore).toCore = Core.reset := rfl
@[simp] theorem resetCore_history (s : State) : (s.resetCore).history = [] := rfl
@[simp] theorem resetCore_mem (s : State) : (s.resetCore).mem = s.mem := rfl
@[simp] theorem resetCore_cfg (s : State) : (s.resetCore).cfg = s.cfg := rfl
@[simp] theorem resetCore_pixel (s : State) : (s.resetCore).pixel = s.pixel := rfl
@[simp] theorem resetCore_inbox (s : State) : (s.resetCore).inbox = s.inbox := rfl
@[simp] theorem resetCore_handlers (s : State) : (s.resetCore).handlers = s.handlers := rfl
@[simp] theorem resetCore_paused (s : State) : (s.resetCore).paused = s.paused := rfl
@[simp] theorem resetCore_reply (s : State) : (s.resetCore).reply = s.reply := rfl

/-! ### `setSlot` -/

@[simp] theorem setSlot_clock (s : State) (x : SlotId) (e : Option Entry) : (s.setSlot x e).clock = s.clock := rfl
@[simp] theorem setSlot_slots (s : State) (x : SlotId) (e : Option Entry) : (s.setSlot x e).slots = s.slots.set x e := rfl
@[simp] theorem setSlot_passing (s : State) (x : SlotId) (e : Option Entry) : (s.setSlot x e).passing = s.passing := rfl
@[simp] theorem setSlot_frame (s : State) (x : SlotId) (e : Option Entry) : (s.setSlot x e).frame = s.frame := rfl
@[simp] theorem setSlot_line (s : State) (x : SlotId) (e : Option Entry) : (s.setSlot x e).line = s.line := rfl
@[simp] theorem setSlot_column (s : State) (x : SlotId) (e : Option Entry) : (s.setSlot x e).column = s.column := rfl
@[simp] theorem setSlot_dmacon (s : State) (x : SlotId) (e : Option Entry) : (s.setSlot x e).dmacon = s.dmacon := rfl
@[simp] theorem setSlot_ddfstrt (s : State) (x : SlotId) (e : Option Entry) : (s.setSlot x e).ddfstrt = s.ddfstrt := rfl
@[simp] theorem setSlot_ddfstop (s : State) (x : SlotId) (e : Option Entry) : (s.setSlot x e).ddfstop = s.ddfstop := rfl
@[simp] theorem setSlot_bplpt (s : State) (x : SlotId) (e : Option Entry) : (s.setSlot x e).bplpt = s.bplpt := rfl
@[simp] theorem setSlot_bpl1mod (s : State) (x : SlotId) (e : Option Entry) : (s.setSlot x e).bpl1mod = s.bpl1mod := rfl
@[simp] theorem setSlot_bpl2mod (s : State) (x : SlotId) (e : Option Entry) : (s.setSlot x e).bpl2mod = s.bpl2mod := rfl
@[simp] theorem setSlot_bpldat (s : State) (x : SlotId) (e : Option Entry) : (s.setSlot x e).bpldat = s.bpldat := rfl
@[simp] theorem setSlot_sprpt (s : State) (x : SlotId) (e : Option Entry) : (s.setSlot x e).sprpt = s.sprpt := rfl
@[simp] theorem setSlot_sprdat (s : State) (x : SlotId) (e : Option Entry) : (s.setSlot x e).sprdat = s.sprdat := rfl
@[simp] theorem setSlot_audpt (s : State) (x : SlotId) (e : Option Entry) : (s.setSlot x e).audpt = s.audpt := rfl
@[simp] theorem setSlot_auddat (s : State) (x : SlotId) (e : Option Entry) : (s.setSlot x e).auddat = s.auddat := rfl
@[simp] theorem setSlot_dskpt (s : State) (x : SlotId) (e : Option Entry) : (s.setSlot x e).dskpt = s.dskpt := rfl
@[simp] theorem setSlot_dskdat (s : State) (x : SlotId) (e : Option Entry) : (s.setSlot x e).dskdat = s.dskdat := rfl
@[simp] theorem setSlot_owner (s : State) (x : SlotId) (e : Option Entry) : (s.setSlot x e).owner = s.owner := rfl
@[simp] theorem setSlot_next (s : State) (x : SlotId) (e : Option Entry) : (s.setSlot x e).next = s.next := rfl
@[simp] theorem setSlot_first (s : State) (x : SlotId) (e : Option Entry) : (s.setSlot x e).first = s.first := rfl
@[simp] theorem setSlot_lastFetch (s : State) (x : SlotId) (e : Option Entry) : (s.setSlot x e).lastFetch = s.lastFetch := rfl
@[simp] theorem setSlot_blt (s : State) (x : SlotId) (e : Option Entry) : (s.setSlot x e).blt = s.blt := rfl
@[simp] theorem setSlot_fault (s : State) (x : SlotId) (e : Option Entry) : (s.setSlot x e).fault = s.fault := rfl
@[simp] theorem setSlot_history (s : State) (x : SlotId) (e : Option Entry) : (s.setSlot x e).history = s.history := rfl
@[simp] theorem setSlot_mem (s : State) (x : SlotId) (e : Option Entry) : (s.setSlot x e).mem = s.mem := rfl
@[simp] theorem setSlot_cfg (s : State) (x : SlotId) (e : Option Entry) : (s.setSlot x e).cfg = s.cfg := rfl
@[simp] theorem setSlot_pixel (s : State) (x : SlotId) (e : Option Entry) : (s.setSlot x e).pixel = s.pixel := rfl
@[simp] theorem setSlot_inbox (s : State) (x : SlotId) (e : Option Entry) : (s.setSlot x e).inbox = s.inbox := rfl
@[simp] theorem setSlot_handlers (s : State) (x : SlotId) (e : Option Entry) : (s.setSlot x e).handlers = s.handlers := rfl
@[simp] theorem setSlot_paused (s : State) (x : SlotId) (e : Option Entry) : (s.setSlot x e).paused = s.paused := rfl
@[simp] theorem setSlot_reply (s : State) (x : SlotId) (e : Option Entry) : (s.setSlot x e).reply = s.reply := rfl

/-! ### `setPassing` -/

@[simp] theorem setPassing_clock (s : State) (p : Option SlotId) : (s.setPassing p).clock = s.clock := rfl
@[simp] theorem setPassing_slots (s : State) (p : Option SlotId) : (s.setPassing p).slots = s.slots := rfl
@[simp] theorem setPassing_passing (s : State) (p : Option SlotId) : (s.setPassing p).passing = p := rfl
@[simp] theorem setPassing_frame (s : State) (p : Option SlotId) : (s.setPassing p).frame = s.frame := rfl
@[simp] theorem setPassing_line (s : State) (p : Option SlotId) : (s.setPassing p).line = s.line := rfl
@[simp] theorem setPassing_column (s : State) (p : Option SlotId) : (s.setPassing p).column = s.column := rfl
@[simp] theorem setPassing_dmacon (s : State) (p : Option SlotId) : (s.setPassing p).dmacon = s.dmacon := rfl
@[simp] theorem setPassing_ddfstrt (s : State) (p : Option SlotId) : (s.setPassing p).ddfstrt = s.ddfstrt := rfl
@[simp] theorem setPassing_ddfstop (s : State) (p : Option SlotId) : (s.setPassing p).ddfstop = s.ddfstop := rfl
@[simp] theorem setPassing_bplpt (s : State) (p : Option SlotId) : (s.setPassing p).bplpt = s.bplpt := rfl
@[simp] theorem setPassing_bpl1mod (s : State) (p : Option SlotId) : (s.setPassing p).bpl1mod = s.bpl1mod := rfl
@[simp] theorem setPassing_bpl2mod (s : State) (p : Option SlotId) : (s.setPassing p).bpl2mod = s.bpl2mod := rfl
@[simp] theorem setPassing_bpldat (s : State) (p : Option SlotId) : (s.setPassing p).bpldat = s.bpldat := rfl
@[simp] theorem setPassing_sprpt (s : State) (p : Option SlotId) : (s.setPassing p).sprpt = s.sprpt := rfl
@[simp] theorem setPassing_sprdat (s : State) (p : Option SlotId) : (s.setPassing p).sprdat = s.sprdat := rfl
@[simp] theorem setPassing_audpt (s : State) (p : Option SlotId) : (s.setPassing p).audpt = s.audpt := rfl
@[simp] theorem setPassing_auddat (s : State) (p : Option SlotId) : (s.setPassing p).auddat = s.auddat := rfl
@[simp] theorem setPassing_dskpt (s : State) (p : Option SlotId) : (s.setPassing p).dskpt = s.dskpt := rfl
@[simp] theorem setPassing_dskdat (s : State) (p : Option SlotId) : (s.setPassing p).dskdat = s.dskdat := rfl
@[simp] theorem setPassing_owner (s : State) (p : Option SlotId) : (s.setPassing p).owner = s.owner := rfl
@[simp] theorem setPassing_next (s : State) (p : Option SlotId) : (s.setPassing p).next = s.next := rfl
@[simp] theorem setPassing_first (s : State) (p : Option SlotId) : (s.setPassing p).first = s.first := rfl
@[simp] theorem setPassing_lastFetch (s : State) (p : Option SlotId) : (s.setPassing p).lastFetch = s.lastFetch := rfl
@[simp] theorem setPassing_blt (s : State) (p : Option SlotId) : (s.setPassing p).blt = s.blt := rfl
@[simp] theorem setPassing_fault (s : State) (p : Option SlotId) : (s.setPassing p).fault = s.fault := rfl
@[simp] theorem setPassing_history (s : State) (p : Option SlotId) : (s.setPassing p).history = s.history := rfl
@[simp] theorem setPassing_mem (s : State) (p : Option SlotId) : (s.setPassing p).mem = s.mem := rfl
@[simp] theorem setPassing_cfg (s : State) (p : Option SlotId) : (s.setPassing p).cfg = s.cfg := rfl
@[simp] theorem setPassing_pixel (s : State) (p : Option SlotId) : (s.setPassing p).pixel = s.pixel := rfl
@[simp] theorem setPassing_inbox (s : State) (p : Option SlotId) : (s.setPassing p).inbox = s.inbox := rfl
@[simp] theorem setPassing_handlers (s : State) (p : Option SlotId) : (s.setPassing p).handlers = s.handlers := rfl
@[simp] theorem setPassing_paused (s : State) (p : Option SlotId) : (s.setPassing p).paused = s.paused := rfl
@[simp] theorem setPassing_reply (s : State) (p : Option SlotId) : (s.setPassing p).reply = s.reply := rfl

/-! ### `setTable` -/

@[simp] theorem setTable_clock (s : State) (t : List Owner) : (s.setTable t).clock = s.clock := rfl
@[simp] theorem setTable_slots (s : State) (t : List Owner) : (s.setTable t).slots = s.slots := rfl
@[simp] theorem setTable_passing (s : State) (t : List Owner) : (s.setTable t).passing = s.passing := rfl
@[simp] theorem setTable_frame (s : State) (t : List Owner) : (s.setTable t).frame = s.frame := rfl
@[simp] theorem setTable_line (s : State) (t : List Owner) : (s.setTable t).line = s.line := rfl
@[simp] theorem setTable_column (s : State) (t : List Owner) : (s.setTable t).column = s.column := rfl
@[simp] theorem setTable_dmacon (s : State) (t : List Owner) : (s.setTable t).dmacon = s.dmacon := rfl
@[simp] theorem setTable_ddfstrt (s : State) (t : List Owner) : (s.setTable t).ddfstrt = s.ddfstrt := rfl
@[simp] theorem setTable_ddfstop (s : State) (t : List Owner) : (s.setTable t).ddfstop = s.ddfstop := rfl
@[simp] theorem setTable_bplpt (s : State) (t : List Owner) : (s.setTable t).bplpt = s.bplpt := rfl
@[simp] theorem setTable_bpl1mod (s : State) (t : List Owner) : (s.setTable t).bpl1mod = s.bpl1mod := rfl
@[simp] theorem setTable_bpl2mod (s : State) (t : List Owner) : (s.setTable t).bpl2mod = s.bpl2mod := rfl
@[simp] theorem setTable_bpldat (s : State) (t : List Owner) : (s.setTable t).bpldat = s.bpldat := rfl
@[simp] theorem setTable_sprpt (s : State) (t : List Owner) : (s.setTable t).sprpt = s.sprpt := rfl
@[simp] theorem setTable_sprdat (s : State) (t : List Owner) : (s.setTable t).sprdat = s.sprdat := rfl
@[simp] theorem setTable_audpt (s : State) (t : List Owner) : (s.setTable t).audpt = s.audpt := rfl
@[simp] theorem setTable_auddat (s : State) (t : List Owner) : (s.setTable t).auddat = s.auddat := rfl
@[simp] theorem setTable_dskpt (s : State) (t : List Owner) : (s.setTable t).dskpt = s.dskpt := rfl
@[simp] theorem setTable_dskdat (s : State) (t : List Owner) : (s.setTable t).dskdat = s.dskdat := rfl
@[simp] theorem setTable_owner (s : State) (t : List Owner) : (s.setTable t).owner = t := rfl
@[simp] theorem setTable_next (s : State) (t : List Owner) : (s.setTable t).next = (scanNext 0 t).1 := rfl
@[simp] theorem setTable_first (s : State) (t : List Owner) : (s.setTable t).first = (scanNext 0 t).2 := rfl
@[simp] theorem setTable_lastFetch (s : State) (t : List Owner) : (s.setTable t).lastFetch = lastFetchOf t := rfl
@[simp] theorem setTable_blt (s : State) (t : List Owner) : (s.setTable t).blt = s.blt := rfl
@[simp] theorem setTable_fault (s : State) (t : List Owner) : (s.setTable t).fault = s.fault := rfl
@[simp] theorem setTable_history (s : State) (t : List Owner) : (s.setTable t).history = s.history := rfl
@[simp] theorem setTable_mem (s : State) (t : List Owner) : (s.setTable t).mem = s.mem := rfl
@[simp] theorem setTable_cfg (s : State) (t : List Owner) : (s.setTable t).cfg = s.cfg := rfl
@[simp] theorem setTable_pixel (s : State) (t : List Owner) : (s.setTable t).pixel = s.pixel := rfl
@[simp] theorem setTable_inbox (s : State) (t : List Owner) : (s.setTable t).inbox = s.inbox := rfl
@[simp] theorem setTable_handlers (s : State) (t : List Owner) : (s.setTable t).handlers = s.handlers := rfl
@[simp] theorem setTable_paused (s : State) (t : List Owner) : (s.setTable t).paused = s.paused := rfl
@[simp] theorem setTable_reply (s : State) (t : List Owner) : (s.setTable t).reply = s.reply := rfl

/-! ### `raiseFatal` -/

@[simp] theorem raiseFatal_clock (f : Fatal) (s : State) : (raiseFatal f s).clock = s.clock := rfl
@[simp] theorem raiseFatal_slots (f : Fatal) (s : State) : (raiseFatal f s).slots = s.slots := rfl
@[simp] theorem raiseFatal_passing (f : Fatal) (s : State) : (raiseFatal f s).passing = s.passing := rfl
@[simp] theorem raiseFatal_frame (f : Fatal) (s : State) : (raiseFatal f s).frame = s.frame := rfl
@[simp] theorem raiseFatal_line (f : Fatal) (s : State) : (raiseFatal f s).line = s.line := rfl
@[simp] theorem raiseFatal_column (f : Fatal) (s : State) : (raiseFatal f s).column = s.column := rfl
@[simp] theorem raiseFatal_dmacon (f : Fatal) (s : State) : (raiseFatal f s).dmacon = s.dmacon := rfl
@[simp] theorem raiseFatal_ddfstrt (f : Fatal) (s : State) : (raiseFatal f s).ddfstrt = s.ddfstrt := rfl
@[simp] theorem raiseFatal_ddfstop (f : Fatal) (s : State) : (raiseFatal f s).ddfstop = s.ddfstop := rfl
@[simp] theorem raiseFatal_bplpt (f : Fatal) (s : State) : (raiseFatal f s).bplpt = s.bplpt := rfl
@[simp] theorem raiseFatal_bpl1mod (f : Fatal) (s : State) : (raiseFatal f s).bpl1mod = s.bpl1mod := rfl
@[simp] theorem raiseFatal_bpl2mod (f : Fatal) (s : State) : (raiseFatal f s).bpl2mod = s.bpl2mod := rfl
@[simp] theorem raiseFatal_bpldat (f : Fatal) (s : State) : (raiseFatal f s).bpldat = s.bpldat := rfl
@[simp] theorem raiseFatal_sprpt (f : Fatal) (s : State) : (raiseFatal f s).sprpt = s.sprpt := rfl
@[simp] theorem raiseFatal_sprdat (f : Fatal) (s : State) : (raiseFatal f s).sprdat = s.sprdat := rfl
@[simp] theorem raiseFatal_audpt (f : Fatal) (s : State) : (raiseFatal f s).audpt = s.audpt := rfl
@[simp] theorem raiseFatal_auddat (f : Fatal) (s : State) : (raiseFatal f s).auddat = s.auddat := rfl
@[simp] theorem raiseFatal_dskpt (f : Fatal) (s : State) : (raiseFatal f s).dskpt = s.dskpt := rfl
@[simp] theorem raiseFatal_dskdat (f : Fatal) (s : State) : (raiseFatal f s).dskdat = s.dskdat := rfl
@[simp] theorem raiseFatal_owner (f : Fatal) (s : State) : (raiseFatal f s).owner = s.owner := rfl
@[simp] theorem raiseFatal_next (f : Fatal) (s : State) : (raiseFatal f s).next = s.next := rfl
@[simp] theorem raiseFatal_first (f : Fatal) (s : State) : (raiseFatal f s).first = s.first := rfl
@[simp] theorem raiseFatal_lastFetch (f : Fatal) (s : State) : (raiseFatal f s).lastFetch = s.lastFetch := rfl
@[simp] theorem raiseFatal_blt (f : Fatal) (s : State) : (raiseFatal f s).blt = s.blt := rfl
@[simp] theorem raiseFatal_fault (f : Fatal) (s : State) : (raiseFatal f s).fault = if s.fault.isNone then some f else s.fault := rfl
@[simp] theorem raiseFatal_history (f : Fatal) (s : State) : (raiseFatal f s).history = s.history ++ [⟨s.clock, .fault f⟩] := rfl
@[simp] theorem raiseFatal_mem (f : Fatal) (s : State) : (raiseFatal f s).mem = s.mem := rfl
@[simp] theorem raiseFatal_cfg (f : Fatal) (s : State) : (raiseFatal f s).cfg = s.cfg := rfl
@[simp] theorem raiseFatal_pixel (f : Fatal) (s : State) : (raiseFatal f s).pixel = s.pixel := rfl
@[simp] theorem raiseFatal_inbox (f : Fatal) (s : State) : (raiseFatal f s).inbox = s.inbox := rfl
@[simp] theorem raiseFatal_handlers (f : Fatal) (s : State) : (raiseFatal f s).handlers = s.handlers := rfl
@[simp] theorem raiseFatal_paused (f : Fatal) (s : State) : (raiseFatal f s).paused = s.paused := rfl
@[simp] theorem raiseFatal_reply (f : Fatal) (s : State) : (raiseFatal f s).reply = s.reply := rfl

/-! ### `setPtr` -/

@[simp] theorem setPtr_clock (s : State) (p : PtrId) (v : Ptr) : (s.setPtr p v).clock = s.clock := by
  rcases p with _ | (_ | _ | _ | _) | _ | _ | _ <;> rfl
@[simp] theorem setPtr_slots (s : State) (p : PtrId) (v : Ptr) : (s.setPtr p v).slots = s.slots := by
  rcases p with _ | (_ | _ | _ | _) | _ | _ | _ <;> rfl
@[simp] theorem setPtr_passing (s : State) (p : PtrId) (v : Ptr) : (s.setPtr p v).passing = s.passing := by
  rcases p with _ | (_ | _ | _ | _) | _ | _ | _ <;> rfl
@[simp] theorem setPtr_frame (s : State) (p : PtrId) (v : Ptr) : (s.setPtr p v).frame = s.frame := by
  rcases p with _ | (_ | _ | _ | _) | _ | _ | _ <;> rfl
@[simp] theorem setPtr_line (s : State) (p : PtrId) (v : Ptr) : (s.setPtr p v).line = s.line := by
  rcases p with _ | (_ | _ | _ | _) | _ | _ | _ <;> rfl
@[simp] theorem setPtr_column (s : State) (p : PtrId) (v : Ptr) : (s.setPtr p v).column = s.column := by
  rcases p with _ | (_ | _ | _ | _) | _ | _ | _ <;> rfl
@[simp] theorem setPtr_dmacon (s : State) (p : PtrId) (v : Ptr) : (s.setPtr p v).dmacon = s.dmacon := by
  rcases p with _ | (_ | _ | _ | _) | _ | _ | _ <;> rfl
@[simp] theorem setPtr_ddfstrt (s : State) (p : PtrId) (v : Ptr) : (s.setPtr p v).ddfstrt = s.ddfstrt := by
  rcases p with _ | (_ | _ | _ | _) | _ | _ | _ <;> rfl
@[simp] theorem setPtr_ddfstop (s : State) (p : PtrId) (v : Ptr) : (s.setPtr p v).ddfstop = s.ddfstop := by
  rcases p with _ | (_ | _ | _ | _) | _ | _ | _ <;> rfl
@[simp] theorem setPtr_bpl1mod (s : State) (p : PtrId) (v : Ptr) : (s.setPtr p v).bpl1mod = s.bpl1mod := by
  rcases p with _ | (_ | _ | _ | _) | _ | _ | _ <;> rfl
@[simp] theorem setPtr_bpl2mod (s : State) (p : PtrId) (v : Ptr) : (s.setPtr p v).bpl2mod = s.bpl2mod := by
  rcases p with _ | (_ | _ | _ | _) | _ | _ | _ <;> rfl
@[simp] theorem setPtr_bpldat (s : State) (p : PtrId) (v : Ptr) : (s.setPtr p v).bpldat = s.bpldat := by
  rcases p with _ | (_ | _ | _ | _) | _ | _ | _ <;> rfl
@[simp] theorem setPtr_sprdat (s : State) (p : PtrId) (v : Ptr) : (s.setPtr p v).sprdat = s.sprdat := by
  rcases p with _ | (_ | _ | _ | _) | _ | _ | _ <;> rfl
@[simp] theorem setPtr_auddat (s : State) (p : PtrId) (v : Ptr) : (s.setPtr p v).auddat = s.auddat := by
  rcases p with _ | (_ | _ | _ | _) | _ | _ | _ <;> rfl
@[simp] theorem setPtr_dskdat (s : State) (p : PtrId) (v : Ptr) : (s.setPtr p v).dskdat = s.dskdat := by
  rcases p with _ | (_ | _ | _ | _) | _ | _ | _ <;> rfl
@[simp] theorem setPtr_owner (s : State) (p : PtrId) (v : Ptr) : (s.setPtr p v).owner = s.owner := by
  rcases p with _ | (_ | _ | _ | _) | _ | _ | _ <;> rfl
@[simp] theorem setPtr_next (s : State) (p : PtrId) (v : Ptr) : (s.setPtr p v).next = s.next := by
  rcases p with _ | (_ | _ | _ | _) | _ | _ | _ <;> rfl
@[simp] theorem setPtr_first (s : State) (p : PtrId) (v : Ptr) : (s.setPtr p v).first = s.first := by
  rcases p with _ | (_ | _ | _ | _) | _ | _ | _ <;> rfl
@[simp] theorem setPtr_lastFetch (s : State) (p : PtrId) (v : Ptr) : (s.setPtr p v).lastFetch = s.lastFetch := by
  rcases p with _ | (_ | _ | _ | _) | _ | _ | _ <;> rfl
@[simp] theorem setPtr_fault (s : State) (p : PtrId) (v : Ptr) : (s.setPtr p v).fault = s.fault := by
  rcases p with _ | (_ | _ | _ | _) | _ | _ | _ <;> rfl
@[simp] theorem setPtr_history (s : State) (p : PtrId) (v : Ptr) : (s.setPtr p v).history = s.history := by
  rcases p with _ | (_ | _ | _ | _) | _ | _ | _ <;> rfl
@[simp] theorem setPtr_mem (s : State) (p : PtrId) (v : Ptr) : (s.setPtr p v).mem = s.mem := by
  rcases p with _ | (_ | _ | _ | _) | _ | _ | _ <;> rfl
@[simp] theorem setPtr_cfg (s : State) (p : PtrId) (v : Ptr) : (s.setPtr p v).cfg = s.cfg := by
  rcases p with _ | (_ | _ | _ | _) | _ | _ | _ <;> rfl
@[simp] theorem setPtr_pixel (s : State) (p : PtrId) (v : Ptr) : (s.setPtr p v).pixel = s.pixel := by
  rcases p with _ | (_ | _ | _ | _) | _ | _ | _ <;> rfl
@[simp] theorem setPtr_inbox (s : State) (p : PtrId) (v : Ptr) : (s.setPtr p v).inbox = s.inbox := by
  rcases p with _ | (_ | _ | _ | _) | _ | _ | _ <;> rfl
@[simp] theorem setPtr_handlers (s : State) (p : PtrId) (v : Ptr) : (s.setPtr p v).handlers = s.handlers := by
  rcases p with _ | (_ | _ | _ | _) | _ | _ | _ <;> rfl
@[simp] theorem setPtr_paused (s : State) (p : PtrId) (v : Ptr) : (s.setPtr p v).paused = s.paused := by
  rcases p with _ | (_ | _ | _ | _) | _ | _ | _ <;> rfl
@[simp] theorem setPtr_reply (s : State) (p : PtrId) (v : Ptr) : (s.setPtr p v).reply = s.reply := by
  rcases p with _ | (_ | _ | _ | _) | _ | _ | _ <;> rfl

/-! ### `setModulo` -/

@[simp] theorem setModulo_clock (s : State) (m : ModId) (v : Word) : (s.setModulo m v).clock = s.clock := by
  rcases m with _ | _ | (_ | _ | _ | _) <;> rfl
@[simp] theorem setModulo_slots (s : State) (m : ModId) (v : Word) : (s.setModulo m v).slots = s.slots := by
  rcases m with _ | _ | (_ | _ | _ | _) <;> rfl
@[simp] theorem setModulo_passing (s : State) (m : ModId) (v : Word) : (s.setModulo m v).passing = s.passing := by
  rcases m with _ | _ | (_ | _ | _ | _) <;> rfl
@[simp] theorem setModulo_frame (s : State) (m : ModId) (v : Word) : (s.setModulo m v).frame = s.frame := by
  rcases m with _ | _ | (_ | _ | _ | _) <;> rfl
@[simp] theorem setModulo_line (s : State) (m : ModId) (v : Word) : (s.setModulo m v).line = s.line := by
  rcases m with _ | _ | (_ | _ | _ | _) <;> rfl
@[simp] theorem setModulo_column (s : State) (m : ModId) (v : Word) : (s.setModulo m v).column = s.column := by
  rcases m with _ | _ | (_ | _ | _ | _) <;> rfl
@[simp] theorem setModulo_dmacon (s : State) (m : ModId) (v : Word) : (s.setModulo m v).dmacon = s.dmacon := by
  rcases m with _ | _ | (_ | _ | _ | _) <;> rfl
@[simp] theorem setModulo_ddfstrt (s : State) (m : ModId) (v : Word) : (s.setModulo m v).ddfstrt = s.ddfstrt := by
  rcases m with _ | _ | (_ | _ | _ | _) <;> rfl
@[simp] theorem setModulo_ddfstop (s : State) (m : ModId) (v : Word) : (s.setModulo m v).ddfstop = s.ddfstop := by
  rcases m with _ | _ | (_ | _ | _ | _) <;> rfl
@[simp] theorem setModulo_bplpt (s : State) (m : ModId) (v : Word) : (s.setModulo m v).bplpt = s.bplpt := by
  rcases m with _ | _ | (_ | _ | _ | _) <;> rfl
@[simp] theorem setModulo_bpldat (s : State) (m : ModId) (v : Word) : (s.setModulo m v).bpldat = s.bpldat := by
  rcases m with _ | _ | (_ | _ | _ | _) <;> rfl
@[simp] theorem setModulo_sprpt (s : State) (m : ModId) (v : Word) : (s.setModulo m v).sprpt = s.sprpt := by
  rcases m with _ | _ | (_ | _ | _ | _) <;> rfl
@[simp] theorem setModulo_sprdat (s : State) (m : ModId) (v : Word) : (s.setModulo m v).sprdat = s.sprdat := by
  rcases m with _ | _ | (_ | _ | _ | _) <;> rfl
@[simp] theorem setModulo_audpt (s : State) (m : ModId) (v : Word) : (s.setModulo m v).audpt = s.audpt := by
  rcases m with _ | _ | (_ | _ | _ | _) <;> rfl
@[simp] theorem setModulo_auddat (s : State) (m : ModId) (v : Word) : (s.setModulo m v).auddat = s.auddat := by
  rcases m with _ | _ | (_ | _ | _ | _) <;> rfl
@[simp] theorem setModulo_dskpt (s : State) (m : ModId) (v : Word) : (s.setModulo m v).dskpt = s.dskpt := by
  rcases m with _ | _ | (_ | _ | _ | _) <;> rfl
@[simp] theorem setModulo_dskdat (s : State) (m : ModId) (v : Word) : (s.setModulo m v).dskdat = s.dskdat := by
  rcases m with _ | _ | (_ | _ | _ | _) <;> rfl
@[simp] theorem setModulo_owner (s : State) (m : ModId) (v : Word) : (s.setModulo m v).owner = s.owner := by
  rcases m with _ | _ | (_ | _ | _ | _) <;> rfl
@[simp] theorem setModulo_next (s : State) (m : ModId) (v : Word) : (s.setModulo m v).next = s.next := by
  rcases m with _ | _ | (_ | _ | _ | _) <;> rfl
@[simp] theorem setModulo_first (s : State) (m : ModId) (v : Word) : (s.setModulo m v).first = s.first := by
  rcases m with _ | _ | (_ | _ | _ | _) <;> rfl
@[simp] theorem setModulo_lastFetch (s : State) (m : ModId) (v : Word) : (s.setModulo m v).lastFetch = s.lastFetch := by
  rcases m with _ | _ | (_ | _ | _ | _) <;> rfl
@[simp] theorem setModulo_fault (s : State) (m : ModId) (v : Word) : (s.setModulo m v).fault = s.fault := by
  rcases m with _ | _ | (_ | _ | _ | _) <;> rfl
@[simp] theorem setModulo_history (s : State) (m : ModId) (v : Word) : (s.setModulo m v).history = s.history := by
  rcases m with _ | _ | (_ | _ | _ | _) <;> rfl
@[simp] theorem setModulo_mem (s : State) (m : ModId) (v : Word) : (s.setModulo m v).mem = s.mem := by
  rcases m with _ | _ | (_ | _ | _ | _) <;> rfl
@[simp] theorem setModulo_cfg (s : State) (m : ModId) (v : Word) : (s.setModulo m v).cfg = s.cfg := by
  rcases m with _ | _ | (_ | _ | _ | _) <;> rfl
@[simp] theorem setModulo_pixel (s : State) (m : ModId) (v : Word) : (s.setModulo m v).pixel = s.pixel := by
  rcases m with _ | _ | (_ | _ | _ | _) <;> rfl
@[simp] theorem setModulo_inbox (s : State) (m : ModId) (v : Word) : (s.setModulo m v).inbox = s.inbox := by
  rcases m with _ | _ | (_ | _ | _ | _) <;> rfl
@[simp] theorem setModulo_handlers (s : State) (m : ModId) (v : Word) : (s.setModulo m v).handlers = s.handlers := by
  rcases m with _ | _ | (_ | _ | _ | _) <;> rfl
@[simp] theorem setModulo_paused (s : State) (m : ModId) (v : Word) : (s.setModulo m v).paused = s.paused := by
  rcases m with _ | _ | (_ | _ | _ | _) <;> rfl
@[simp] theorem setModulo_reply (s : State) (m : ModId) (v : Word) : (s.setModulo m v).reply = s.reply := by
  rcases m with _ | _ | (_ | _ | _ | _) <;> rfl

/-! ### Reading back what was written -/

/-- A slot reads as what was last put in it. -/
@[simp] theorem slots_get_set_same (t : Slots) (x : SlotId) (e : Option Entry) : (t.set x e).get x = e := by
  cases x <;> rfl

/-- Writing a slot leaves the others. -/
theorem slots_get_set_other (t : Slots) {x y : SlotId} (e : Option Entry) (h : y ≠ x) : (t.set x e).get y = t.get y := by
  cases x <;> cases y <;> first | rfl | exact absurd rfl h

@[simp] theorem slot_setSlot_same (s : State) (x : SlotId) (e : Option Entry) : (s.setSlot x e).slot x = e :=
  slots_get_set_same s.slots x e

theorem slot_setSlot_other (s : State) {x y : SlotId} (e : Option Entry) (h : y ≠ x) :
    (s.setSlot x e).slot y = s.slot y :=
  slots_get_set_other s.slots e h

/-- A pointer register reads as what was last put in it. -/
@[simp] theorem ptr_setPtr_same (s : State) (p : PtrId) (v : Ptr) : (s.setPtr p v).ptr p = v := by
  rcases p with _ | (_ | _ | _ | _) | n | n | n <;> simp [State.setPtr, State.ptr]

/-- Writing a pointer register leaves the others. -/
theorem ptr_setPtr_other (s : State) {p q : PtrId} (v : Ptr) (h : q ≠ p) : (s.setPtr p v).ptr q = s.ptr q := by
  rcases p with _ | (_ | _ | _ | _) | n | n | n <;> rcases q with _ | (_ | _ | _ | _) | m | m | m <;>
    first
      | rfl
      | exact absurd rfl h
      | (have hne : n.val ≠ m.val := fun hv => h (by rw [Fin.ext hv])
         simp [State.setPtr, State.ptr, hne])

/-- A modulo register reads as what was last put in it. -/
@[simp] theorem modulo_setModulo_same (s : State) (m : ModId) (v : Word) : (s.setModulo m v).modulo m = v := by
  rcases m with _ | _ | (_ | _ | _ | _) <;> rfl

/-- Writing a modulo register leaves the others. -/
theorem modulo_setModulo_other (s : State) {m n : ModId} (v : Word) (h : n ≠ m) :
    (s.setModulo m v).modulo n = s.modulo n := by
  rcases m with _ | _ | (_ | _ | _ | _) <;> rcases n with _ | _ | (_ | _ | _ | _) <;>
    first | rfl | exact absurd rfl h

/-- Writing a pointer register leaves the modulos. -/
@[simp] theorem modulo_setPtr (s : State) (p : PtrId) (v : Ptr) (m : ModId) : (s.setPtr p v).modulo m = s.modulo m := by
  rcases p with _ | (_ | _ | _ | _) | _ | _ | _ <;> rcases m with _ | _ | (_ | _ | _ | _) <;> rfl

/-- Writing a modulo register leaves the pointers. -/
@[simp] theorem ptr_setModulo (s : State) (m : ModId) (v : Word) (p : PtrId) : (s.setModulo m v).ptr p = s.ptr p := by
  rcases m with _ | _ | (_ | _ | _ | _) <;> rcases p with _ | (_ | _ | _ | _) | _ | _ | _ <;> rfl

end Sys2Proof.Machine
end

