-- ==== Sys2Proof/Laws/Ops.lean ====
section
/-! SUPPORT. One lemma for each shared operation, saying everything it can do; the meanings' proofs cite these and do not
unfold the operations again. -/

namespace Sys2Proof.Machine

/-! ### Sequencing -/

theorem halted_eq_false {s : State} (h : s.fault = none) : s.halted = false := by simp [State.halted, h]

theorem halted_eq_true {s : State} (h : s.fault ≠ none) : s.halted = true := by
  cases hf : s.fault with
  | none => exact absurd hf h
  | some f => simp [State.halted, hf]

theorem fault_eq_none {s : State} (h : s.halted = false) : s.fault = none := by
  cases hf : s.fault with
  | none => rfl
  | some f => simp [State.halted, hf] at h

theorem unlessHalted_run {f : State → State} {s : State} (h : s.fault = none) : unlessHalted f s = f s := by
  simp [unlessHalted, halted_eq_false h]

theorem unlessHalted_stay {f : State → State} {s : State} (h : s.fault ≠ none) : unlessHalted f s = s := by
  simp [unlessHalted, halted_eq_true h]

theorem andThen_run {f g : State → State} {s : State} (h : (f s).fault = none) : andThen f g s = g (f s) :=
  unlessHalted_run h

theorem andThen_stop {f g : State → State} {s : State} (h : (f s).fault ≠ none) : andThen f g s = f s :=
  unlessHalted_stay h

/-- A sequence either stops where the first part faulted or goes on with the second. -/
theorem andThen_cases (f g : State → State) (s : State) :
    ((f s).fault ≠ none ∧ andThen f g s = f s) ∨ ((f s).fault = none ∧ andThen f g s = g (f s)) := by
  by_cases h : (f s).fault = none
  · exact .inr ⟨h, andThen_run h⟩
  · exact .inl ⟨h, andThen_stop h⟩

/-- What the first part of a sequence establishes and the second keeps holds after both. -/
theorem andThen_ind {P : State → Prop} {f g : State → State} {s : State} (hf : P (f s)) (hg : ∀ t, P t → P (g t)) :
    P (andThen f g s) := by
  rcases andThen_cases f g s with ⟨_, h⟩ | ⟨_, h⟩ <;> rw [h]
  · exact hf
  · exact hg _ hf

/-- What an operation keeps, its refusal while halted keeps too. -/
theorem unlessHalted_ind {P : State → Prop} {f : State → State} {s : State} (h0 : P s) (hf : P s → P (f s)) :
    P (unlessHalted f s) := by
  unfold unlessHalted
  split
  · exact h0
  · exact hf h0

/-! ### Fault entry -/

theorem raiseFatal_eq {s : State} (f : Fatal) (h : s.fault = none) :
    raiseFatal f s = { s with fault := some f, history := s.history ++ [⟨s.clock, .fault f⟩] } := by
  simp [raiseFatal, State.log, h]

theorem raiseFatal_halts (f : Fatal) (s : State) : (raiseFatal f s).fault ≠ none := by
  cases h : s.fault <;> simp [raiseFatal, State.log, h]

/-! ### Scheduler -/

/-- `earliest` is the present cycle or the next one. -/
theorem earliest_cases (s : State) (x : SlotId) : s.earliest x = s.clock ∨ s.earliest x = s.clock + 1 := by
  unfold State.earliest
  split
  · split <;> simp
  · exact .inl rfl

theorem clock_le_earliest (s : State) (x : SlotId) : s.clock ≤ s.earliest x := by
  rcases earliest_cases s x with h | h <;> omega

/-- A scheduler call installs an entry of the slot's kind at an admissible cycle, or is fatal. -/
theorem scheduleNext_cases (x : SlotId) (offset : Int) (kind : Nat) (payload : Payload) (s : State) :
    ((7 ≤ kind ∨ kind ≠ (slotKind x).code) ∧
      scheduleNext x offset kind payload s = raiseFatal (.invalidEventKind x kind) s) ∨
    (kind = (slotKind x).code ∧ (s.clock : Int) + offset < (s.earliest x : Int) ∧
      scheduleNext x offset kind payload s = raiseFatal (.scheduleInPast x ((s.clock : Int) + offset)) s) ∨
    (kind = (slotKind x).code ∧ (s.earliest x : Int) ≤ (s.clock : Int) + offset ∧
      scheduleNext x offset kind payload s =
        s.setSlot x (some ⟨((s.clock : Int) + offset).toNat, slotKind x, payload⟩)) := by
  unfold scheduleNext
  split
  · exact .inl ⟨‹_›, rfl⟩
  · rename_i hk
    have hk' : kind = (slotKind x).code := not_not.1 fun h => hk (.inr h)
    split
    · exact .inr (.inl ⟨hk', ‹_›, rfl⟩)
    · exact .inr (.inr ⟨hk', by omega, rfl⟩)

/-- A block's own call installs its entry when its trigger is admissible. -/
theorem scheduleOwn_install (x : SlotId) {offset : Nat} (payload : Payload) (s : State)
    (h : s.earliest x ≤ s.clock + offset) :
    scheduleOwn x offset payload s = s.setSlot x (some ⟨s.clock + offset, slotKind x, payload⟩) := by
  unfold scheduleOwn scheduleNext
  rw [if_neg (by cases x <;> simp [slotKind, EventKind.code]), if_neg (by omega)]
  rfl

/-- A block's own call with an offset of at least 1 always installs its entry. -/
theorem scheduleOwn_eq (x : SlotId) {offset : Nat} (payload : Payload) (s : State) (h : 1 ≤ offset) :
    scheduleOwn x offset payload s = s.setSlot x (some ⟨s.clock + offset, slotKind x, payload⟩) :=
  scheduleOwn_install x payload s (by have := earliest_cases s x; omega)

/-- A block's own call with a trigger that is not admissible is fatal. -/
theorem scheduleOwn_past (x : SlotId) {offset : Nat} (payload : Payload) (s : State)
    (h : s.clock + offset < s.earliest x) :
    scheduleOwn x offset payload s = raiseFatal (.scheduleInPast x ((s.clock : Int) + offset)) s := by
  unfold scheduleOwn scheduleNext
  rw [if_neg (by cases x <;> simp [slotKind, EventKind.code]), if_pos (by omega)]

/-- Only an entry triggered at the present cycle is due. -/
theorem due_eq_some {s : State} {x : SlotId} {e : Entry} :
    s.due x = some e ↔ s.slot x = some e ∧ e.trigger = s.clock := by
  unfold State.due
  cases h : s.slot x with
  | none => simp
  | some e' =>
    by_cases ht : e'.trigger = s.clock
    · simp only [if_pos ht, Option.some.injEq]
      exact ⟨fun h => ⟨h, h ▸ ht⟩, fun h => h.1⟩
    · simp only [if_neg ht, reduceCtorEq, false_iff, Option.some.injEq, not_and]
      exact fun h => h ▸ ht

/-! ### Blitter -/

/-- A start is one of the four refusals, in their order, or the transfer begins and its first step is scheduled after the
start delay (`scheduleOwn_install`, `scheduleOwn_past`). -/
theorem blitStart_cases (s : State) :
    (s.blt.busy = true ∧ blitStart s = raiseFatal (.blitBusy s.blt.bltsize) s) ∨
    (s.blt.busy = false ∧ blitterDma s.dmacon = false ∧ blitStart s = raiseFatal (.blitDmaOff s.dmacon) s) ∨
    (s.blt.busy = false ∧ blitterDma s.dmacon = true ∧ s.blt.bltcon1 &&& Config.bltModeMask ≠ 0 ∧
      blitStart s = raiseFatal (.unimplBlitMode s.blt.bltcon1) s) ∨
    (s.blt.busy = false ∧ blitterDma s.dmacon = true ∧ s.blt.bltcon1 &&& Config.bltModeMask = 0 ∧
      s.programFor (channelMask s.blt.bltcon0) = none ∧
      blitStart s = raiseFatal (.unimplBlitChannels (channelMask s.blt.bltcon0)) s) ∨
    (s.blt.busy = false ∧ blitterDma s.dmacon = true ∧ s.blt.bltcon1 &&& Config.bltModeMask = 0 ∧
      ∃ program, s.programFor (channelMask s.blt.bltcon0) = some program ∧
        blitStart s = scheduleOwn .blitter s.cfg.blitStartDelay 0 { s with blt := s.blt.started program }) := by
  unfold blitStart
  cases hb : s.blt.busy
  · cases hd : blitterDma s.dmacon
    · exact .inr (.inl ⟨rfl, rfl, rfl⟩)
    · by_cases hm : s.blt.bltcon1 &&& Config.bltModeMask = 0
      · cases hp : s.programFor (channelMask s.blt.bltcon0) with
        | none => exact .inr (.inr (.inr (.inl ⟨rfl, rfl, hm, rfl, by
            rw [if_neg (by decide), if_neg (by decide), if_neg (not_not.2 hm)]⟩)))
        | some program =>
          refine .inr (.inr (.inr (.inr ⟨rfl, rfl, hm, program, rfl, ?_⟩)))
          rw [if_neg (by decide), if_neg (by decide), if_neg (not_not.2 hm)]
      · exact .inr (.inr (.inl ⟨rfl, rfl, hm, by rw [if_neg (by decide), if_neg (by decide), if_pos hm]⟩))
  · exact .inl ⟨rfl, rfl⟩

/-- An abort empties the Blitter's slot and leaves it idle, and changes nothing else. -/
theorem abortBlit_eq (s : State) :
    abortBlit s = { s with slots := s.slots.set .blitter none, blt := { s.blt with state := .idle } } := rfl

/-- A step at an index that holds no word, or an illegal one, is fatal before any action. -/
theorem bltStep_cases (s : State) :
    (s.blt.currentWord = none ∧
      bltStep s = raiseFatal (.micropcOverrun s.blt.upc) { s with blt.state := .running }) ∨
    (∃ u, s.blt.currentWord = some u ∧ illegalMicro u = true ∧
      bltStep s = raiseFatal (.illegalMicroword s.blt.upc u) { s with blt.state := .running }) ∨
    (∃ u, s.blt.currentWord = some u ∧ illegalMicro u = false ∧
      bltStep s = finishStep u (runActions u { s with blt := { s.blt with state := .running }.latchStep })) := by
  unfold bltStep
  split
  · exact .inl ⟨‹_›, rfl⟩
  · rename_i u hu
    cases hi : illegalMicro u
    · exact .inr (.inr ⟨u, hu, hi, by simp⟩)
    · exact .inr (.inl ⟨u, hu, hi, by simp⟩)

/-- What every action keeps, the actions of a micro-word keep. -/
theorem runActions_ind {P : State → Prop} (u : Word) {s : State} (h0 : P s) (hc : ∀ t, P t → P (fetchC t))
    (ha : ∀ t, P t → P (fetchA t)) (hb : ∀ t, P t → P (fetchB t)) (hha : ∀ t, P t → P (holdA t))
    (hhb : ∀ t, P t → P (holdB t)) (hhd : ∀ t, P t → P (holdD t)) (hwd : ∀ t, P t → P (writeD t)) :
    P (runActions u s) := by
  have hw : ∀ (b : Bool) (f : State → State), (∀ t, P t → P (f t)) → ∀ t, P t → P (whenBit b f t) := by
    intro b f hf t ht
    cases b
    · exact ht
    · exact hf t ht
  exact hw _ _ hwd _ (hw _ _ hhd _ (hw _ _ hhb _ (hw _ _ hha _ (hw _ _ hb _ (hw _ _ ha _ (hw _ _ hc _ h0))))))

/-! ### Scripts, passes and cycles -/

/-- What every action of a handler keeps, its script keeps. -/
theorem runScript_ind {P : State → Prop} (h : ∀ act s, P s → P (runCollabAct act s)) :
    ∀ (script : List CollabAct) (s : State), P s → P (runScript script s)
  | [], _, h0 => h0
  | act :: rest, s, h0 => andThen_ind (h act s h0) (runScript_ind h rest)

/-- What every dispatch keeps, a pass over slots keeps. -/
theorem passSlots_ind {P : State → Prop} (h : ∀ x s, P s → P (dispatchSlot x s)) :
    ∀ (xs : List SlotId) (s : State), P s → P (passSlots xs s)
  | [], _, h0 => h0
  | x :: rest, s, h0 => andThen_ind (h x s h0) (passSlots_ind h rest)

/-- What every pass and every tick keeps, a run of cycles keeps. -/
theorem runCycles_ind {P : State → Prop} (hp : ∀ s, P s → P (pass s)) (ht : ∀ s, P s → P (tick s)) :
    ∀ (n : Nat) (s : State), P s → P (runCycles n s)
  | 0, _, h0 => h0
  | n + 1, s, h0 => andThen_ind (hp s h0) fun t h => runCycles_ind hp ht n (tick t) (ht t h)

end Sys2Proof.Machine
end

