-- ==== Sys2Proof/Laws/Allocator.lean ====
section
/-! SUPPORT. The allocation table column by column, the companion tables, and what a rebuild can do. -/

namespace Sys2Proof.Machine

/-! ### The owner table -/

@[simp] theorem paintFrom_length (hit : Nat → Bool) (o : Owner) :
    ∀ (c : Nat) (t : List Owner), (paintFrom hit o c t).length = t.length
  | _, [] => rfl
  | c, _ :: xs => by simp [paintFrom, paintFrom_length hit o (c + 1) xs]

/-- A painted column shows the new owner where it is hit and its old one elsewhere. -/
theorem paintFrom_getElem? (hit : Nat → Bool) (o : Owner) :
    ∀ (c : Nat) (t : List Owner) (i : Nat),
      (paintFrom hit o c t)[i]? = t[i]?.map fun x => if hit (c + i) then o else x
  | _, [], _ => rfl
  | c, x :: xs, 0 => rfl
  | c, x :: xs, i + 1 => by
    simp only [paintFrom, List.getElem?_cons_succ, paintFrom_getElem? hit o (c + 1) xs i]
    rw [show c + 1 + i = c + (i + 1) from by omega]

@[simp] theorem paint_length (hit : Nat → Bool) (o : Owner) (t : List Owner) : (paint hit o t).length = t.length :=
  paintFrom_length hit o 0 t

theorem paint_getElem? (hit : Nat → Bool) (o : Owner) (t : List Owner) (c : Nat) :
    (paint hit o t)[c]? = t[c]?.map fun x => if hit c then o else x := by
  rw [paint, paintFrom_getElem?, Nat.zero_add]

/-- A fold of placements that keep the table's length keeps it. -/
theorem foldl_length {α : Type} {f : List Owner → α → List Owner} (h : ∀ t a, (f t a).length = t.length) :
    ∀ (l : List α) (t : List Owner), (l.foldl f t).length = t.length
  | [], _ => rfl
  | a :: l, t => by rw [List.foldl_cons, foldl_length h l (f t a), h]

theorem placePlane_length (cfg : Config) (a b : Word) (hires : Bool) (bpu : Nat) (t : List Owner) (p : Fin 6) :
    (placePlane cfg a b hires bpu t p).length = t.length := by
  unfold placePlane
  split <;> simp

theorem placeBitplanes_length (cfg : Config) (d a b : Word) (hires : Bool) (bpu : Nat) (t : List Owner) :
    (placeBitplanes cfg d a b hires bpu t).length = t.length := by
  unfold placeBitplanes
  split
  · exact foldl_length (placePlane_length cfg a b hires bpu) _ _
  · rfl

theorem placeSprites_length (cfg : Config) (d : Word) (t : List Owner) :
    (placeSprites cfg d t).length = t.length := by
  unfold placeSprites
  split
  · exact foldl_length (fun t x => paint_length _ _ t) _ _
  · rfl

theorem placeAudio_length (cfg : Config) (d : Word) (t : List Owner) (n : Fin 4) :
    (placeAudio cfg d t n).length = t.length := by
  unfold placeAudio
  split <;> simp

theorem placeDisk_length (cfg : Config) (d : Word) (t : List Owner) : (placeDisk cfg d t).length = t.length := by
  unfold placeDisk
  split <;> simp

/-- The table has one entry per column. -/
@[simp] theorem ownerTable_length (cfg : Config) (d a b : Word) (hires : Bool) (bpu : Nat) :
    (ownerTable cfg d a b hires bpu).length = Config.cols := by
  unfold ownerTable
  split
  · rw [placeBitplanes_length, placeSprites_length, foldl_length (placeAudio_length cfg d), placeDisk_length,
      List.length_replicate]
  · exact List.length_replicate

/-! ### The companion tables -/

@[simp] theorem scanNext_length : ∀ (c : Nat) (t : List Owner), (scanNext c t).1.length = t.length
  | _, [] => rfl
  | c, _ :: os => by simp [scanNext, scanNext_length (c + 1) os]

/-- The second result of the scan is the least populated column. -/
theorem scanNext_first : ∀ (c : Nat) (t : List Owner),
    match (scanNext c t).2 with
    | some d => c ≤ d ∧ (∃ o, t[d - c]? = some o ∧ o ≠ .none) ∧ ∀ i, c + i < d → t[i]? = some .none
    | none => ∀ (i : Nat) (o : Owner), t[i]? = some o → o = .none
  | _, [] => by simp [scanNext]
  | c, o :: os => by
    have ih := scanNext_first (c + 1) os
    by_cases ho : o = .none
    · simp only [scanNext, ho, if_true]
      cases hs : (scanNext (c + 1) os).2 with
      | none =>
        rw [hs] at ih
        intro i o' h
        cases i with
        | zero => simpa using h.symm
        | succ i => exact ih i o' (by simpa using h)
      | some d =>
        rw [hs] at ih
        obtain ⟨hle, ⟨o', ho', hne⟩, hlt⟩ := ih
        refine ⟨by omega, ⟨o', ?_, hne⟩, ?_⟩
        · rw [show d - c = d - (c + 1) + 1 from by omega, List.getElem?_cons_succ, ho']
        · intro i hi
          cases i with
          | zero => rfl
          | succ i => exact hlt i (by omega)
    · simp only [scanNext, if_neg ho]
      refine ⟨Nat.le_refl c, ⟨o, by simp, ho⟩, fun i hi => absurd hi (by omega)⟩

/-- The entry of a column in the `next` table is the least populated column of those after it. -/
theorem scanNext_next : ∀ (c : Nat) (t : List Owner) (i : Nat), i < t.length →
    (scanNext c t).1[i]? = some (scanNext (c + i + 1) (t.drop (i + 1))).2
  | _, [], _, h => absurd h (by simp)
  | c, o :: os, 0, _ => by simp [scanNext]
  | c, o :: os, i + 1, h => by
    have := scanNext_next (c + 1) os i (by simpa using h)
    rw [show (scanNext c (o :: os)).1 = (scanNext (c + 1) os).2 :: (scanNext (c + 1) os).1 from rfl,
      List.getElem?_cons_succ, this, List.drop_succ_cons]
    rw [show c + 1 + i + 1 = c + (i + 1) + 1 from by omega]

/-- The least populated column after the scan's start is not before it, and lies in the table. -/
theorem scanNext_bounds {c d : Nat} {t : List Owner} (h : (scanNext c t).2 = some d) : c ≤ d ∧ d < c + t.length := by
  have := scanNext_first c t
  rw [h] at this
  obtain ⟨hle, ⟨o, ho, _⟩, _⟩ := this
  have hlt := (List.getElem?_eq_some_iff.1 ho).1
  exact ⟨hle, by omega⟩

/-- The greatest column that a plane owns. -/
theorem scanLast_spec (p : Fin 6) : ∀ (c : Nat) (t : List Owner),
    match scanLast p c t with
    | some d => c ≤ d ∧ t[d - c]? = some (.bpl p) ∧ ∀ i, d < c + i → t[i]? ≠ some (.bpl p)
    | none => ∀ i : Nat, t[i]? ≠ some (Owner.bpl p)
  | _, [] => by simp [scanLast]
  | c, o :: os => by
    have ih := scanLast_spec p (c + 1) os
    simp only [scanLast]
    cases hs : scanLast p (c + 1) os with
    | some d =>
      rw [hs] at ih
      obtain ⟨hle, hat, hgt⟩ := ih
      refine ⟨by omega, ?_, ?_⟩
      · rw [show d - c = d - (c + 1) + 1 from by omega, List.getElem?_cons_succ, hat]
      · intro i hi
        cases i with
        | zero => omega
        | succ i => simpa using hgt i (by omega)
    | none =>
      rw [hs] at ih
      by_cases ho : o = .bpl p
      · simp only [ho, if_true]
        refine ⟨Nat.le_refl c, by simp, ?_⟩
        intro i hi
        cases i with
        | zero => omega
        | succ i => simpa using ih i
      · simp only [if_neg ho]
        intro i
        cases i with
        | zero => simpa using ho
        | succ i => simpa using ih i

/-! ### rebuild -/

/-- A column the new table makes next is a later column of the line. -/
theorem setTable_nextAt {s : State} {t : List Owner} {c d : Nat} (h : (s.setTable t).nextAt c = some d) :
    c < d ∧ d < t.length := by
  unfold State.nextAt at h
  rw [show (s.setTable t).next = (scanNext 0 t).1 from rfl] at h
  by_cases hc : c < t.length
  · rw [scanNext_next 0 t c hc, Option.getD_some] at h
    have := scanNext_bounds h
    rw [List.length_drop] at this
    omega
  · rw [List.getElem?_eq_none (by rw [scanNext_length]; omega)] at h
    simp at h

/-- After a new table the DMA slot is put on a column not before the present one, at that column's cycle, or emptied. -/
theorem rescheduleDma_setTable (s : State) (t : List Owner) :
    ((s.setTable t).dmaTarget = none ∧ rescheduleDma (s.setTable t) = (s.setTable t).setSlot .dma none) ∨
    (∃ c, (s.setTable t).dmaTarget = some c ∧ s.column ≤ c ∧ s.earliest .dma ≤ s.clock + (c - s.column) ∧
      rescheduleDma (s.setTable t) =
        (s.setTable t).setSlot .dma (some ⟨s.clock + (c - s.column), .dmaFetch, BitVec.ofNat 64 c⟩)) := by
  have he : (s.setTable t).earliest .dma = s.earliest .dma := rfl
  have hclock : (s.setTable t).clock = s.clock := rfl
  have hcol : (s.setTable t).column = s.column := rfl
  unfold rescheduleDma
  cases hc : (s.setTable t).dmaTarget with
  | none => exact .inl ⟨rfl, rfl⟩
  | some c =>
    have hb : s.column ≤ c ∧ s.earliest .dma ≤ s.clock + (c - s.column) := by
      have hcases := earliest_cases s .dma
      unfold State.dmaTarget at hc
      rw [he, hclock] at hc
      split at hc
      · split at hc
        · cases hc
          exact ⟨Nat.le_refl _, by omega⟩
        · have := (setTable_nextAt hc).1
          rw [hcol] at this
          omega
      · have := (setTable_nextAt hc).1
        rw [hcol] at this
        omega
    refine .inr ⟨c, rfl, hb.1, hb.2, ?_⟩
    have htrig : ((s.clock : Int) + ((c : Int) - (s.column : Int))) = ((s.clock + (c - s.column) : Nat) : Int) := by omega
    show scheduleNext .dma _ _ _ _ = _
    unfold scheduleNext
    rw [if_neg (by decide), hclock, hcol, he, htrig, if_neg (by omega)]
    rfl

/-- A rebuild is fatal on a plane count above 6; otherwise it replaces the tables and the DMA slot, and nothing else. -/
theorem rebuild_cases (s : State) :
    (Config.maxPlanes < s.pixel.bpu ∧ rebuild s = raiseFatal (.bpuOutOfRange s.pixel.bpu) s) ∨
    (s.pixel.bpu ≤ Config.maxPlanes ∧ ∃ e, rebuild s = (s.setTable s.currentTable).setSlot .dma e ∧
      ((e = none ∧ (s.setTable s.currentTable).dmaTarget = none) ∨
        ∃ c, (s.setTable s.currentTable).dmaTarget = some c ∧ s.column ≤ c ∧
          s.earliest .dma ≤ s.clock + (c - s.column) ∧
          e = some ⟨s.clock + (c - s.column), .dmaFetch, BitVec.ofNat 64 c⟩)) := by
  unfold rebuild
  split
  · exact .inl ⟨‹_›, rfl⟩
  · refine .inr ⟨by omega, ?_⟩
    rcases rescheduleDma_setTable s s.currentTable with ⟨h0, h⟩ | ⟨c, h0, h1, h2, h⟩
    · exact ⟨_, h, .inl ⟨rfl, h0⟩⟩
    · exact ⟨_, h, .inr ⟨c, h0, h1, h2, rfl⟩⟩

end Sys2Proof.Machine
end

