-- ==== Sys2Proof/Laws/Decode.lean ====
section
/-! SUPPORT. Lemmas of the decoder and the encoder: what the parts of a packet decode to, and that a decoded operation is
well formed. -/

namespace Sys2Proof

/-- The offsets of the registers are distinct: the decoder finds each register at its own. -/
theorem regOfCode_offset (r : Reg) : regOfCode r.offset = some r := by
  have h : ∀ r ∈ Reg.all, regOfCode r.offset = some r := by decide
  have hp : ∀ p : PtrId, p ∈ PtrId.all := by
    intro p
    rcases p with _ | (_ | _ | _ | _) | n | n | n
    all_goals first | decide | (revert n; decide)
  have hm : ∀ m : ModId, Reg.mod m ∈ Reg.all := by
    intro m
    rcases m with _ | _ | (_ | _ | _ | _) <;> decide
  apply h
  rcases r with _ | _ | p | p | m | _ | _ | _ | _ | _ | _ | _ | _
  case pth => exact List.mem_append_right _ (List.mem_append_left _ (List.mem_map_of_mem (hp p)))
  case ptl => exact List.mem_append_right _ (List.mem_append_right _ (List.mem_map_of_mem (hp p)))
  case mod => exact hm m
  all_goals decide

@[simp] theorem natOperand_ofNat (n : Nat) : natOperand (n : Int) = .ok n := rfl

@[simp] theorem slotOperand_number (x : SlotId) : slotOperand (x.number : Int) = .ok x := by cases x <;> rfl

@[simp] theorem payloadOperand_toNat (p : Payload) : payloadOperand (p.toNat : Int) = .ok p := by
  show (if p.toNat < 2 ^ 64 then _ else _) = _
  rw [if_pos p.isLt, BitVec.ofNat_toNat, BitVec.setWidth_eq]

@[simp] theorem wordOperand_toNat (v : Word) : wordOperand (v.toNat : Int) = .ok v := by
  show (if v.toNat < 2 ^ 16 then _ else _) = _
  rw [if_pos v.isLt, BitVec.ofNat_toNat, BitVec.setWidth_eq]

/-- An access the decoder reads is well formed. -/
theorem decodeAccess_wellFormed {dir : Dir} {width : Nat} {args : List Int} {a : Access}
    (h : decodeAccess dir width args = .ok a) : a.wellFormed = true := by
  unfold decodeAccess at h
  split at h
  · rename_i hw
    cases h
    simpa [Access.wellFormed] using hw
  · split at h
    · rename_i v
      cases hv : wordOperand v with
      | error e => simp [hv, bind, Except.bind] at h
      | ok w =>
        simp [hv, bind, Except.bind, pure, Except.pure] at h
        subst h
        rfl
    · cases h; rfl
    · cases h

/-- A register row is well formed when its access is. -/
theorem reg_instr_wellFormed (r : Reg) (a : Access) (h : a.wellFormed = true) : (r.instr a).wellFormed = true := by
  rcases r with _ | _ | p | p | m | _ | _ | _ | _ | _ | _ | _ | _
  case pth => rcases p with _ | (_ | _ | _ | _) | n | n | n <;> first | exact h | (fin_cases n <;> exact h)
  case ptl => rcases p with _ | (_ | _ | _ | _) | n | n | n <;> first | exact h | (fin_cases n <;> exact h)
  case mod => rcases m with _ | _ | (_ | _ | _ | _) <;> exact h
  all_goals exact h

/-- What is in a list with an action put in front when its bit is set. -/
@[simp] theorem mem_whenSet {bit : Bool} {i j : Instr} {rest : List Instr} :
    j ∈ whenSet bit i rest ↔ (bit = true ∧ j = i) ∨ j ∈ rest := by
  cases bit <;> simp [whenSet]

/-- An action of a micro-word that has no LOOPBACK bit is well formed. -/
theorem microActions_wellFormed {u : Word} (h : u.getLsbD 7 = false) : ∀ i ∈ microActions u, i.wellFormed = true := by
  intro i hi
  simp only [microActions, h, mem_whenSet, Bool.false_eq_true, false_and, List.not_mem_nil, or_false] at hi
  rcases hi with ⟨_, rfl⟩ | ⟨_, rfl⟩ | ⟨_, rfl⟩ | ⟨_, rfl⟩ | ⟨_, rfl⟩ | ⟨_, rfl⟩ | ⟨_, rfl⟩ <;> rfl

/-- A micro-word the decoder reads is a well-formed row. -/
theorem decodeUword_wellFormed {u : Word} {i : Instr} (h : decodeUword u = .ok i) : i.wellFormed = true := by
  unfold decodeUword at h
  split at h
  · cases h
  · rename_i hm
    split at h
    · rename_i hb
      cases h
      unfold microError at hm
      split at hm
      · cases hm
      · split at hm
        · cases hm
        · split at hm
          · cases hm
          · rename_i h3
            simp only [Instr.wellFormed, bne_iff_ne, ne_eq]
            exact fun h0 => h3 ⟨hb, h0⟩
    · rename_i hb
      have hb' : u.getLsbD 7 = false := by simpa using hb
      split at h
      · cases h; rfl
      · rename_i j hj
        cases h
        exact microActions_wellFormed hb' i (by rw [hj]; exact List.mem_singleton.2 rfl)
      · cases h

/-- Every operation the decoder reads is well formed. -/
theorem decode_wellFormed {p : Packet} {i : Instr} (h : decode p = .ok i) : i.wellFormed = true := by
  have hreg : ∀ dir, decodeRegister dir p = .ok i → i.wellFormed = true := by
    intro dir hd
    unfold decodeRegister at hd
    split at hd
    · cases hd
    · rename_i r _
      cases ha : decodeAccess dir p.width p.args with
      | error e => simp [ha, bind, Except.bind] at hd
      | ok a =>
        simp [ha, bind, Except.bind, pure, Except.pure] at hd
        subst hd
        exact reg_instr_wellFormed r a (decodeAccess_wellFormed ha)
  unfold decode at h
  split at h
  · split at h
    · exact decodeUword_wellFormed h
    · cases h
  · exact hreg _ h
  · exact hreg _ h
  · unfold decodeIface at h
    split at h <;> (try simp only [bind, Except.bind, pure, Except.pure] at h) <;>
      (repeat (split at h <;> try cases h)) <;> first | rfl | (cases h; rfl)

end Sys2Proof
end

