-- ==== Sys2Proof/Laws/Exec.lean ====
section
/-! SUPPORT. What `exec` answers for whole groups of operations: every register row through its register's name, and the core's
own operations from a state with no fault. -/

namespace Sys2Proof.Machine

/-- Every register row is the access of its register, refused while halted. -/
theorem exec_reg_instr (r : Reg) (a : Access) (s : State) :
    exec (r.instr a) s = .next (unlessHalted (accessReg r a) s) := by
  rcases r with _ | _ | p | p | m | _ | _ | _ | _ | _ | _ | _ | _
  case pth => rcases p with _ | (_ | _ | _ | _) | n | n | n <;> first | rfl | (fin_cases n <;> rfl)
  case ptl => rcases p with _ | (_ | _ | _ | _) | n | n | n <;> first | rfl | (fin_cases n <;> rfl)
  case mod => rcases m with _ | _ | (_ | _ | _ | _) <;> rfl
  all_goals rfl

/-- A register access with no fault set. -/
theorem exec_reg_run {r : Reg} {a : Access} {s : State} (h : s.fault = none) :
    exec (r.instr a) s = .next (accessReg r a s) := by
  rw [exec_reg_instr, unlessHalted_run h]

theorem exec_hsyncFire_run {s : State} (h : s.fault = none) : exec .hsyncFire s = .next (hsync s) :=
  congrArg _ (unlessHalted_run h)

theorem exec_dmaFire_run {s : State} (payload : Payload) (h : s.fault = none) :
    exec (.dmaFire payload) s = .next (dmaFire payload s) := congrArg _ (unlessHalted_run h)

theorem exec_bltStepFire_run {s : State} (h : s.fault = none) : exec .bltStepFire s = .next (bltStep s) :=
  congrArg _ (unlessHalted_run h)

theorem exec_rebuild_run {s : State} (h : s.fault = none) : exec .rebuild s = .next (rebuild s) :=
  congrArg _ (unlessHalted_run h)

theorem exec_bltStart_run {s : State} (h : s.fault = none) : exec .bltStart s = .next (blitStart s) :=
  congrArg _ (unlessHalted_run h)

theorem exec_tick_run {s : State} (h : s.fault = none) : exec .tick s = .next (tick s) := congrArg _ (unlessHalted_run h)

/-- ADVANCE_TO of the next cycle is one pass and, unless it faulted, one tick. -/
theorem exec_advanceTo_next {s : State} (h : s.fault = none) :
    exec (.advanceTo (s.clock + 1)) s = .next (andThen pass tick s) := by
  show Host.Outcome.next (unlessHalted (advanceTo _) s) = _
  rw [unlessHalted_run h, advanceTo, show s.clock + 1 - s.clock = 1 by omega]
  rfl

end Sys2Proof.Machine
end

