-- ==== Sys2Proof/Laws/Memory.lean ====
section
/-! SUPPORT. The laws of chip memory: every operation keeps the canonical form, a read after a write gives the value
written, a write leaves every other byte. -/

namespace Sys2Proof.Machine

/-- A canonical memory above `lo` is canonical above any lower bound. -/
theorem wfFrom_mono {lo lo' : Nat} (h : lo' ≤ lo) : ∀ {m : Memory}, m.wfFrom lo = true → m.wfFrom lo' = true
  | [], _ => rfl
  | (a, v) :: rest, hw => by
    simp only [Memory.wfFrom, Bool.and_eq_true, decide_eq_true_eq] at hw ⊢
    exact ⟨⟨⟨Nat.le_trans h hw.1.1.1, hw.1.1.2⟩, hw.1.2⟩, hw.2⟩

/-- No byte below a canonical memory's bound is listed. -/
theorem readByte_below {lo a : Nat} (h : a < lo) : ∀ {m : Memory}, m.wfFrom lo = true → m.readByte a = Memory.unlisted
  | [], _ => rfl
  | (b, v) :: rest, hw => by
    simp only [Memory.wfFrom, Bool.and_eq_true, decide_eq_true_eq] at hw
    have hb : b ≠ a := by omega
    simp only [Memory.readByte, if_neg hb]
    exact readByte_below (by omega) hw.2

/-- Putting a byte in front keeps the form. -/
theorem consByte_wfFrom {lo a : Nat} {v : Byte} {rest : Memory} (hlo : lo ≤ a) (ha : a < 2 ^ 19)
    (hw : rest.wfFrom (a + 1) = true) : (Memory.consByte a v rest).wfFrom lo = true := by
  unfold Memory.consByte
  split
  · exact wfFrom_mono (by omega) hw
  · rename_i hv
    simp only [Memory.wfFrom, Bool.and_eq_true, decide_eq_true_eq]
    exact ⟨⟨⟨hlo, ha⟩, hv⟩, hw⟩

/-- A byte write keeps the form above a bound. -/
theorem writeByte_wfFrom {a : Nat} {v : Byte} (ha : a < 2 ^ 19) :
    ∀ {m : Memory} {lo : Nat}, lo ≤ a → m.wfFrom lo = true → (m.writeByte a v).wfFrom lo = true
  | [], _, hlo, _ => consByte_wfFrom hlo ha rfl
  | (b, w) :: rest, lo, hlo, hw => by
    have hb := hw
    simp only [Memory.wfFrom, Bool.and_eq_true, decide_eq_true_eq] at hb
    simp only [Memory.writeByte]
    split
    · rename_i hab
      refine consByte_wfFrom hlo ha ?_
      simp only [Memory.wfFrom, Bool.and_eq_true, decide_eq_true_eq]
      exact ⟨⟨⟨hab, hb.1.1.2⟩, hb.1.2⟩, hb.2⟩
    · split
      · rename_i _ hab
        subst hab
        exact consByte_wfFrom hlo ha hb.2
      · rename_i h1 h2
        simp only [Memory.wfFrom, Bool.and_eq_true, decide_eq_true_eq]
        exact ⟨hb.1, writeByte_wfFrom ha (by omega) hb.2⟩

/-- A byte write keeps the canonical form. -/
theorem writeByte_wf {m : Memory} {a : Nat} (v : Byte) (ha : a < 2 ^ 19) (hw : m.wf = true) :
    (m.writeByte a v).wf = true :=
  writeByte_wfFrom ha (Nat.zero_le a) hw

/-- Both bytes of a word lie in the address space. -/
theorem wordAddr_lt (a : ChipAddr) : wordAddr a + 1 < 2 ^ 19 := by
  unfold wordAddr; omega

/-- A word write keeps the canonical form. -/
theorem writeWord_wf {m : Memory} (a : ChipAddr) (v : Word) (hw : m.wf = true) : (m.writeWord a v).wf = true :=
  writeByte_wf _ (wordAddr_lt a) (writeByte_wf _ (Nat.lt_of_succ_lt (wordAddr_lt a)) hw)

/-- Reading a byte put in front. -/
theorem readByte_consByte {a : Nat} {v : Byte} {rest : Memory} (h : rest.readByte a = Memory.unlisted) (b : Nat) :
    (Memory.consByte a v rest).readByte b = if b = a then v else rest.readByte b := by
  unfold Memory.consByte
  split
  · rename_i hv
    split
    · rename_i hba; rw [hba, h, hv]
    · rfl
  · simp only [Memory.readByte, eq_comm (a := a)]

/-- A byte reads as written at its address and as before at every other. -/
theorem readByte_writeByte {a : Nat} {v : Byte} :
    ∀ {m : Memory} {lo : Nat}, m.wfFrom lo = true → ∀ b, (m.writeByte a v).readByte b = if b = a then v else m.readByte b
  | [], _, _, b => readByte_consByte rfl b
  | (c, w) :: rest, lo, hw, b => by
    have hc := hw
    simp only [Memory.wfFrom, Bool.and_eq_true, decide_eq_true_eq] at hc
    simp only [Memory.writeByte]
    split
    · rename_i hac
      refine readByte_consByte ?_ b
      have hca : c ≠ a := by omega
      simp only [Memory.readByte, if_neg hca]
      exact readByte_below (by omega) hc.2
    · split
      · rename_i _ hac
        subst hac
        rw [readByte_consByte (readByte_below (by omega) hc.2) b]
        simp only [Memory.readByte, eq_comm (a := a)]
        split <;> rfl
      · rename_i h1 h2
        simp only [Memory.readByte, readByte_writeByte hc.2 b]
        split
        · rename_i hcb
          subst hcb
          rw [if_neg (fun h => h2 h.symm)]
        · rfl

/-- A byte of memory after a word write: the word's two bytes at its address, every other byte as before. -/
theorem readByte_writeWord {m : Memory} (a : ChipAddr) (v : Word) (hw : m.wf = true) (b : Nat) :
    (m.writeWord a v).readByte b =
      if b = wordAddr a + 1 then v.extractLsb' 0 8
      else if b = wordAddr a then v.extractLsb' 8 8 else m.readByte b := by
  have h1 := writeByte_wf (v.extractLsb' 8 8) (Nat.lt_of_succ_lt (wordAddr_lt a)) hw
  rw [Memory.writeWord, readByte_writeByte h1, readByte_writeByte hw]

/-- A word reads as written. -/
theorem readWord_writeWord_same {m : Memory} (a : ChipAddr) (v : Word) (hw : m.wf = true) :
    (m.writeWord a v).readWord a = v := by
  rw [Memory.readWord, readByte_writeWord a v hw, readByte_writeWord a v hw]
  simp only [if_neg (Nat.succ_ne_self (wordAddr a)).symm, if_true]
  apply BitVec.eq_of_getLsbD_eq
  intro i hi
  grind

/-- Memory right after power-on has the canonical form. -/
theorem reset_mem_wf : State.reset.mem.wf = true := rfl

end Sys2Proof.Machine
end

