-- ==== Sys2Proof/Laws/PerInstr.lean ====
section
/-! SUPPORT. Statements made per instruction. `TableRow`: the code the encoder gives an operation is one of its own row of
spec/opcode_table.json (the row's mask and match, transcribed here independently of the encoder). -/

namespace Sys2Proof.Laws.TableRow

/-- The mask and the match of an operation's row. -/
def row : Instr → Nat × Nat
  | .fetchA => (0xC001, 0x0001)
  | .fetchB => (0xC002, 0x0002)
  | .fetchC => (0xC004, 0x0004)
  | .holdA => (0xC008, 0x0008)
  | .holdB => (0xC010, 0x0010)
  | .holdD => (0xC020, 0x0020)
  | .writeD => (0xC040, 0x0040)
  | .loopback _ _ => (0xC080, 0x0080)
  | .bltidle => (0xFFFF, 0x0000)
  | .vposr _ => (0x01FE, 0x0004)
  | .vhposr _ => (0x01FE, 0x0006)
  | .dskpth _ => (0x01FE, 0x0020)
  | .dskptl _ => (0x01FE, 0x0022)
  | .bltcon0 _ => (0x01FE, 0x0040)
  | .bltcon1 _ => (0x01FE, 0x0042)
  | .bltafwm _ => (0x01FE, 0x0044)
  | .bltalwm _ => (0x01FE, 0x0046)
  | .bltcpth _ => (0x01FE, 0x0048)
  | .bltcptl _ => (0x01FE, 0x004A)
  | .bltbpth _ => (0x01FE, 0x004C)
  | .bltbptl _ => (0x01FE, 0x004E)
  | .bltapth _ => (0x01FE, 0x0050)
  | .bltaptl _ => (0x01FE, 0x0052)
  | .bltdpth _ => (0x01FE, 0x0054)
  | .bltdptl _ => (0x01FE, 0x0056)
  | .bltsize _ => (0x01FE, 0x0058)
  | .bltcmod _ => (0x01FE, 0x0060)
  | .bltbmod _ => (0x01FE, 0x0062)
  | .bltamod _ => (0x01FE, 0x0064)
  | .bltdmod _ => (0x01FE, 0x0066)
  | .ddfstrt _ => (0x01FE, 0x0092)
  | .ddfstop _ => (0x01FE, 0x0094)
  | .dmacon _ => (0x01FE, 0x0096)
  | .aud0lch _ => (0x01FE, 0x00A0)
  | .aud0lcl _ => (0x01FE, 0x00A2)
  | .aud1lch _ => (0x01FE, 0x00B0)
  | .aud1lcl _ => (0x01FE, 0x00B2)
  | .aud2lch _ => (0x01FE, 0x00C0)
  | .aud2lcl _ => (0x01FE, 0x00C2)
  | .aud3lch _ => (0x01FE, 0x00D0)
  | .aud3lcl _ => (0x01FE, 0x00D2)
  | .bpl1pth _ => (0x01FE, 0x00E0)
  | .bpl1ptl _ => (0x01FE, 0x00E2)
  | .bpl2pth _ => (0x01FE, 0x00E4)
  | .bpl2ptl _ => (0x01FE, 0x00E6)
  | .bpl3pth _ => (0x01FE, 0x00E8)
  | .bpl3ptl _ => (0x01FE, 0x00EA)
  | .bpl4pth _ => (0x01FE, 0x00EC)
  | .bpl4ptl _ => (0x01FE, 0x00EE)
  | .bpl5pth _ => (0x01FE, 0x00F0)
  | .bpl5ptl _ => (0x01FE, 0x00F2)
  | .bpl6pth _ => (0x01FE, 0x00F4)
  | .bpl6ptl _ => (0x01FE, 0x00F6)
  | .bpl1mod _ => (0x01FE, 0x0108)
  | .bpl2mod _ => (0x01FE, 0x010A)
  | .spr0pth _ => (0x01FE, 0x0120)
  | .spr0ptl _ => (0x01FE, 0x0122)
  | .spr1pth _ => (0x01FE, 0x0124)
  | .spr1ptl _ => (0x01FE, 0x0126)
  | .spr2pth _ => (0x01FE, 0x0128)
  | .spr2ptl _ => (0x01FE, 0x012A)
  | .spr3pth _ => (0x01FE, 0x012C)
  | .spr3ptl _ => (0x01FE, 0x012E)
  | .spr4pth _ => (0x01FE, 0x0130)
  | .spr4ptl _ => (0x01FE, 0x0132)
  | .spr5pth _ => (0x01FE, 0x0134)
  | .spr5ptl _ => (0x01FE, 0x0136)
  | .spr6pth _ => (0x01FE, 0x0138)
  | .spr6ptl _ => (0x01FE, 0x013A)
  | .spr7pth _ => (0x01FE, 0x013C)
  | .spr7ptl _ => (0x01FE, 0x013E)
  | .schedule _ _ _ _ => (0x00FF, 0x0001)
  | .cancel _ => (0x00FF, 0x0002)
  | .advanceTo _ => (0x00FF, 0x0003)
  | .tick => (0x00FF, 0x0004)
  | .beamToCycle _ _ _ => (0x00FF, 0x0005)
  | .cycleToBeam _ => (0x00FF, 0x0006)
  | .rebuild => (0x00FF, 0x0007)
  | .dmaFire _ => (0x00FF, 0x0008)
  | .hsyncFire => (0x00FF, 0x0009)
  | .bltStart => (0x00FF, 0x000A)
  | .bltStepFire => (0x00FF, 0x000B)
  | .hostPause => (0x00FF, 0x000C)
  | .hostResume => (0x00FF, 0x000D)
  | .hostStep => (0x00FF, 0x000E)
  | .hostSnapshot => (0x00FF, 0x000F)
  | .reset => (0x00FF, 0x0010)

/-- The code the encoder gives, under the row's mask, is the row's match. -/
def Statement (i : Instr) : Prop := (encode i).code &&& (row i).1 = (row i).2

/-- A register's access is encoded with the register's offset, whatever its form. -/
theorem encodeAccess_code (r : Reg) (a : Access) : (encodeAccess r a).code = r.offset :=
  match a with | .poke _ | .peek | .sized .write _ _ | .sized .read _ _ => rfl

/-- A register row's statement is one about the register's offset. -/
theorem of_access {i : Instr} {r : Reg} {a : Access} {m v : Nat} (hi : encode i = encodeAccess r a)
    (hrow : row i = (m, v)) (h : r.offset &&& m = v) : Statement i := by
  rw [Statement, hi, encodeAccess_code, hrow]
  exact h

/-- An interface row's statement is one about its operation number. -/
theorem of_iface {i : Instr} {code : Nat} {args : List Int} {m v : Nat} (hi : encode i = ifacePacket code args)
    (hrow : row i = (m, v)) (h : code &&& m = v) : Statement i := by
  rw [Statement, hi, hrow]
  exact h

/-- The fixed bits of a LOOPBACK word. -/
theorem loopbackWord_fixed (n : BitVec 6) (actions : BitVec 7) : loopbackWord n actions &&& 0xC080#16 = 0x0080#16 := by
  apply BitVec.eq_of_getLsbD_eq
  intro i hi
  simp only [loopbackWord, BitVec.getLsbD_and, BitVec.getLsbD_append]
  interval_cases i <;> simp

theorem fetchA : Statement .fetchA := rfl

theorem fetchB : Statement .fetchB := rfl

theorem fetchC : Statement .fetchC := rfl

theorem holdA : Statement .holdA := rfl

theorem holdB : Statement .holdB := rfl

theorem holdD : Statement .holdD := rfl

theorem writeD : Statement .writeD := rfl

theorem loopback (n : BitVec 6) (actions : BitVec 7) : Statement (.loopback n actions) := by
  have h := congrArg BitVec.toNat (loopbackWord_fixed n actions)
  rw [BitVec.toNat_and] at h
  exact h

theorem bltidle : Statement .bltidle := rfl

theorem vposr (a : Access) : Statement (.vposr a) :=
  of_access (r := .vposr) (m := 0x01FE) (v := 0x0004) rfl rfl rfl

theorem vhposr (a : Access) : Statement (.vhposr a) :=
  of_access (r := .vhposr) (m := 0x01FE) (v := 0x0006) rfl rfl rfl

theorem dskpth (a : Access) : Statement (.dskpth a) :=
  of_access (r := (.pth .dsk)) (m := 0x01FE) (v := 0x0020) rfl rfl rfl

theorem dskptl (a : Access) : Statement (.dskptl a) :=
  of_access (r := (.ptl .dsk)) (m := 0x01FE) (v := 0x0022) rfl rfl rfl

theorem bltcon0 (a : Access) : Statement (.bltcon0 a) :=
  of_access (r := .bltcon0) (m := 0x01FE) (v := 0x0040) rfl rfl rfl

theorem bltcon1 (a : Access) : Statement (.bltcon1 a) :=
  of_access (r := .bltcon1) (m := 0x01FE) (v := 0x0042) rfl rfl rfl

theorem bltafwm (a : Access) : Statement (.bltafwm a) :=
  of_access (r := .bltafwm) (m := 0x01FE) (v := 0x0044) rfl rfl rfl

theorem bltalwm (a : Access) : Statement (.bltalwm a) :=
  of_access (r := .bltalwm) (m := 0x01FE) (v := 0x0046) rfl rfl rfl

theorem bltcpth (a : Access) : Statement (.bltcpth a) :=
  of_access (r := (.pth (.blt .c))) (m := 0x01FE) (v := 0x0048) rfl rfl rfl

theorem bltcptl (a : Access) : Statement (.bltcptl a) :=
  of_access (r := (.ptl (.blt .c))) (m := 0x01FE) (v := 0x004A) rfl rfl rfl

theorem bltbpth (a : Access) : Statement (.bltbpth a) :=
  of_access (r := (.pth (.blt .b))) (m := 0x01FE) (v := 0x004C) rfl rfl rfl

theorem bltbptl (a : Access) : Statement (.bltbptl a) :=
  of_access (r := (.ptl (.blt .b))) (m := 0x01FE) (v := 0x004E) rfl rfl rfl

theorem bltapth (a : Access) : Statement (.bltapth a) :=
  of_access (r := (.pth (.blt .a))) (m := 0x01FE) (v := 0x0050) rfl rfl rfl

theorem bltaptl (a : Access) : Statement (.bltaptl a) :=
  of_access (r := (.ptl (.blt .a))) (m := 0x01FE) (v := 0x0052) rfl rfl rfl

theorem bltdpth (a : Access) : Statement (.bltdpth a) :=
  of_access (r := (.pth (.blt .d))) (m := 0x01FE) (v := 0x0054) rfl rfl rfl

theorem bltdptl (a : Access) : Statement (.bltdptl a) :=
  of_access (r := (.ptl (.blt .d))) (m := 0x01FE) (v := 0x0056) rfl rfl rfl

theorem bltsize (a : Access) : Statement (.bltsize a) :=
  of_access (r := .bltsize) (m := 0x01FE) (v := 0x0058) rfl rfl rfl

theorem bltcmod (a : Access) : Statement (.bltcmod a) :=
  of_access (r := (.mod (.blt .c))) (m := 0x01FE) (v := 0x0060) rfl rfl rfl

theorem bltbmod (a : Access) : Statement (.bltbmod a) :=
  of_access (r := (.mod (.blt .b))) (m := 0x01FE) (v := 0x0062) rfl rfl rfl

theorem bltamod (a : Access) : Statement (.bltamod a) :=
  of_access (r := (.mod (.blt .a))) (m := 0x01FE) (v := 0x0064) rfl rfl rfl

theorem bltdmod (a : Access) : Statement (.bltdmod a) :=
  of_access (r := (.mod (.blt .d))) (m := 0x01FE) (v := 0x0066) rfl rfl rfl

theorem ddfstrt (a : Access) : Statement (.ddfstrt a) :=
  of_access (r := .ddfstrt) (m := 0x01FE) (v := 0x0092) rfl rfl rfl

theorem ddfstop (a : Access) : Statement (.ddfstop a) :=
  of_access (r := .ddfstop) (m := 0x01FE) (v := 0x0094) rfl rfl rfl

theorem dmacon (a : Access) : Statement (.dmacon a) :=
  of_access (r := .dmacon) (m := 0x01FE) (v := 0x0096) rfl rfl rfl

theorem aud0lch (a : Access) : Statement (.aud0lch a) :=
  of_access (r := (.pth (.aud 0))) (m := 0x01FE) (v := 0x00A0) rfl rfl rfl

theorem aud0lcl (a : Access) : Statement (.aud0lcl a) :=
  of_access (r := (.ptl (.aud 0))) (m := 0x01FE) (v := 0x00A2) rfl rfl rfl

theorem aud1lch (a : Access) : Statement (.aud1lch a) :=
  of_access (r := (.pth (.aud 1))) (m := 0x01FE) (v := 0x00B0) rfl rfl rfl

theorem aud1lcl (a : Access) : Statement (.aud1lcl a) :=
  of_access (r := (.ptl (.aud 1))) (m := 0x01FE) (v := 0x00B2) rfl rfl rfl

theorem aud2lch (a : Access) : Statement (.aud2lch a) :=
  of_access (r := (.pth (.aud 2))) (m := 0x01FE) (v := 0x00C0) rfl rfl rfl

theorem aud2lcl (a : Access) : Statement (.aud2lcl a) :=
  of_access (r := (.ptl (.aud 2))) (m := 0x01FE) (v := 0x00C2) rfl rfl rfl

theorem aud3lch (a : Access) : Statement (.aud3lch a) :=
  of_access (r := (.pth (.aud 3))) (m := 0x01FE) (v := 0x00D0) rfl rfl rfl

theorem aud3lcl (a : Access) : Statement (.aud3lcl a) :=
  of_access (r := (.ptl (.aud 3))) (m := 0x01FE) (v := 0x00D2) rfl rfl rfl

theorem bpl1pth (a : Access) : Statement (.bpl1pth a) :=
  of_access (r := (.pth (.bpl 0))) (m := 0x01FE) (v := 0x00E0) rfl rfl rfl

theorem bpl1ptl (a : Access) : Statement (.bpl1ptl a) :=
  of_access (r := (.ptl (.bpl 0))) (m := 0x01FE) (v := 0x00E2) rfl rfl rfl

theorem bpl2pth (a : Access) : Statement (.bpl2pth a) :=
  of_access (r := (.pth (.bpl 1))) (m := 0x01FE) (v := 0x00E4) rfl rfl rfl

theorem bpl2ptl (a : Access) : Statement (.bpl2ptl a) :=
  of_access (r := (.ptl (.bpl 1))) (m := 0x01FE) (v := 0x00E6) rfl rfl rfl

theorem bpl3pth (a : Access) : Statement (.bpl3pth a) :=
  of_access (r := (.pth (.bpl 2))) (m := 0x01FE) (v := 0x00E8) rfl rfl rfl

theorem bpl3ptl (a : Access) : Statement (.bpl3ptl a) :=
  of_access (r := (.ptl (.bpl 2))) (m := 0x01FE) (v := 0x00EA) rfl rfl rfl

theorem bpl4pth (a : Access) : Statement (.bpl4pth a) :=
  of_access (r := (.pth (.bpl 3))) (m := 0x01FE) (v := 0x00EC) rfl rfl rfl

theorem bpl4ptl (a : Access) : Statement (.bpl4ptl a) :=
  of_access (r := (.ptl (.bpl 3))) (m := 0x01FE) (v := 0x00EE) rfl rfl rfl

theorem bpl5pth (a : Access) : Statement (.bpl5pth a) :=
  of_access (r := (.pth (.bpl 4))) (m := 0x01FE) (v := 0x00F0) rfl rfl rfl

theorem bpl5ptl (a : Access) : Statement (.bpl5ptl a) :=
  of_access (r := (.ptl (.bpl 4))) (m := 0x01FE) (v := 0x00F2) rfl rfl rfl

theorem bpl6pth (a : Access) : Statement (.bpl6pth a) :=
  of_access (r := (.pth (.bpl 5))) (m := 0x01FE) (v := 0x00F4) rfl rfl rfl

theorem bpl6ptl (a : Access) : Statement (.bpl6ptl a) :=
  of_access (r := (.ptl (.bpl 5))) (m := 0x01FE) (v := 0x00F6) rfl rfl rfl

theorem bpl1mod (a : Access) : Statement (.bpl1mod a) :=
  of_access (r := (.mod .bpl1)) (m := 0x01FE) (v := 0x0108) rfl rfl rfl

theorem bpl2mod (a : Access) : Statement (.bpl2mod a) :=
  of_access (r := (.mod .bpl2)) (m := 0x01FE) (v := 0x010A) rfl rfl rfl

theorem spr0pth (a : Access) : Statement (.spr0pth a) :=
  of_access (r := (.pth (.spr 0))) (m := 0x01FE) (v := 0x0120) rfl rfl rfl

theorem spr0ptl (a : Access) : Statement (.spr0ptl a) :=
  of_access (r := (.ptl (.spr 0))) (m := 0x01FE) (v := 0x0122) rfl rfl rfl

theorem spr1pth (a : Access) : Statement (.spr1pth a) :=
  of_access (r := (.pth (.spr 1))) (m := 0x01FE) (v := 0x0124) rfl rfl rfl

theorem spr1ptl (a : Access) : Statement (.spr1ptl a) :=
  of_access (r := (.ptl (.spr 1))) (m := 0x01FE) (v := 0x0126) rfl rfl rfl

theorem spr2pth (a : Access) : Statement (.spr2pth a) :=
  of_access (r := (.pth (.spr 2))) (m := 0x01FE) (v := 0x0128) rfl rfl rfl

theorem spr2ptl (a : Access) : Statement (.spr2ptl a) :=
  of_access (r := (.ptl (.spr 2))) (m := 0x01FE) (v := 0x012A) rfl rfl rfl

theorem spr3pth (a : Access) : Statement (.spr3pth a) :=
  of_access (r := (.pth (.spr 3))) (m := 0x01FE) (v := 0x012C) rfl rfl rfl

theorem spr3ptl (a : Access) : Statement (.spr3ptl a) :=
  of_access (r := (.ptl (.spr 3))) (m := 0x01FE) (v := 0x012E) rfl rfl rfl

theorem spr4pth (a : Access) : Statement (.spr4pth a) :=
  of_access (r := (.pth (.spr 4))) (m := 0x01FE) (v := 0x0130) rfl rfl rfl

theorem spr4ptl (a : Access) : Statement (.spr4ptl a) :=
  of_access (r := (.ptl (.spr 4))) (m := 0x01FE) (v := 0x0132) rfl rfl rfl

theorem spr5pth (a : Access) : Statement (.spr5pth a) :=
  of_access (r := (.pth (.spr 5))) (m := 0x01FE) (v := 0x0134) rfl rfl rfl

theorem spr5ptl (a : Access) : Statement (.spr5ptl a) :=
  of_access (r := (.ptl (.spr 5))) (m := 0x01FE) (v := 0x0136) rfl rfl rfl

theorem spr6pth (a : Access) : Statement (.spr6pth a) :=
  of_access (r := (.pth (.spr 6))) (m := 0x01FE) (v := 0x0138) rfl rfl rfl

theorem spr6ptl (a : Access) : Statement (.spr6ptl a) :=
  of_access (r := (.ptl (.spr 6))) (m := 0x01FE) (v := 0x013A) rfl rfl rfl

theorem spr7pth (a : Access) : Statement (.spr7pth a) :=
  of_access (r := (.pth (.spr 7))) (m := 0x01FE) (v := 0x013C) rfl rfl rfl

theorem spr7ptl (a : Access) : Statement (.spr7ptl a) :=
  of_access (r := (.ptl (.spr 7))) (m := 0x01FE) (v := 0x013E) rfl rfl rfl

theorem schedule (slot : SlotId) (offset : Int) (kind : Nat) (payload : Payload) : Statement (.schedule slot offset kind payload) :=
  of_iface (code := 0x01) (m := 0x00FF) (v := 0x0001) rfl rfl rfl

theorem cancel (slot : SlotId) : Statement (.cancel slot) :=
  of_iface (code := 0x02) (m := 0x00FF) (v := 0x0002) rfl rfl rfl

theorem advanceTo (target : Nat) : Statement (.advanceTo target) :=
  of_iface (code := 0x03) (m := 0x00FF) (v := 0x0003) rfl rfl rfl

theorem tick : Statement .tick := rfl

theorem beamToCycle (frame : Option Nat) (line column : Int) : Statement (.beamToCycle frame line column) :=
  match frame with
  | some _ | none => of_iface (code := 0x05) (m := 0x00FF) (v := 0x0005) rfl rfl rfl

theorem cycleToBeam (cycle : Nat) : Statement (.cycleToBeam cycle) :=
  of_iface (code := 0x06) (m := 0x00FF) (v := 0x0006) rfl rfl rfl

theorem rebuild : Statement .rebuild := rfl

theorem dmaFire (payload : Payload) : Statement (.dmaFire payload) :=
  of_iface (code := 0x08) (m := 0x00FF) (v := 0x0008) rfl rfl rfl

theorem hsyncFire : Statement .hsyncFire := rfl

theorem bltStart : Statement .bltStart := rfl

theorem bltStepFire : Statement .bltStepFire := rfl

theorem hostPause : Statement .hostPause := rfl

theorem hostResume : Statement .hostResume := rfl

theorem hostStep : Statement .hostStep := rfl

theorem hostSnapshot : Statement .hostSnapshot := rfl

theorem reset : Statement .reset := rfl

end Sys2Proof.Laws.TableRow
end

