-- ==== Sys2Proof/Laws/Slots.lean ====
section
/-! SUPPORT. The priority order of the slots: every slot has one place in it, the first four are fixed, and a slot that comes
later in the list has a higher index. -/

namespace Sys2Proof

/-! ### The first four slots, whatever the configuration -/

@[simp] theorem index_raster (cfg : Config) : cfg.index .raster = 0 := rfl
@[simp] theorem index_dma (cfg : Config) : cfg.index .dma = 1 := rfl
@[simp] theorem index_blitter (cfg : Config) : cfg.index .blitter = 2 := rfl
@[simp] theorem index_copper (cfg : Config) : cfg.index .copper = 3 := rfl

/-! ### A proper order -/

theorem SlotId.mem_all (x : SlotId) : x ∈ SlotId.all := by cases x <;> decide

/-- The default order is that of R31's enumeration. -/
theorem default_order_ok : Config.default.OrderOk := .refl _

theorem mem_slots {cfg : Config} (h : cfg.OrderOk) (x : SlotId) : x ∈ cfg.slots := h.mem_iff.2 x.mem_all

theorem slots_nodup {cfg : Config} (h : cfg.OrderOk) : cfg.slots.Nodup := h.nodup_iff.2 (by decide)

/-- Two slots of one index are one slot. -/
theorem index_inj {cfg : Config} (h : cfg.OrderOk) {x y : SlotId} : cfg.index x = cfg.index y ↔ x = y :=
  List.idxOf_inj (mem_slots h x)

/-- Where the order is cut before a slot, that slot's index is the length of the first part. -/
theorem index_of_slots_eq {cfg : Config} (h : cfg.OrderOk) {pre post : List SlotId} {x : SlotId}
    (hs : cfg.slots = pre ++ x :: post) : cfg.index x = pre.length := by
  have hn := slots_nodup h
  rw [hs, List.nodup_append] at hn
  have hx : x ∉ pre := fun hx => hn.2.2 x hx x List.mem_cons_self rfl
  rw [Config.index, hs, List.idxOf_append_of_notMem hx, List.idxOf_cons_self, Nat.add_zero]

/-- A slot before the cut has a lower index than the slot at it. -/
theorem index_lt_of_mem_pre {cfg : Config} (h : cfg.OrderOk) {pre post : List SlotId} {x y : SlotId}
    (hs : cfg.slots = pre ++ x :: post) (hy : y ∈ pre) : cfg.index y < cfg.index x := by
  rw [index_of_slots_eq h hs, Config.index, hs, List.idxOf_append_of_mem hy]
  exact List.idxOf_lt_length_of_mem hy

/-- A slot after the cut has a higher index than the slot at it. -/
theorem index_lt_of_mem_post {cfg : Config} (h : cfg.OrderOk) {pre post : List SlotId} {x y : SlotId}
    (hs : cfg.slots = pre ++ x :: post) (hy : y ∈ post) : cfg.index x < cfg.index y := by
  obtain ⟨a, b, rfl⟩ := List.append_of_mem hy
  exact index_lt_of_mem_pre h (pre := pre ++ x :: a) (post := b) (by simp [hs]) (by simp)

end Sys2Proof
end

