-- ==== Sys2Proof/Tests/Slice0.lean ====
section
/-! SUPPORT. The package's own tests: the checks of WellFormed, words of the spec's encodings, the worked examples of the
rules of spec/ (each named in its comment), and for every obligation with hypotheses a state and operands that meet them. -/

namespace Sys2Proof.Tests

open Sys2Proof.Machine

/-- The next state of an outcome (the reset state where there is none). -/
def after : Host.Outcome State Fault Refusal → State
  | .next t => t
  | .fault _ => State.reset
  | .refused _ => State.reset

/-- A state after reset with other Blitter registers. -/
def withBlt (b : Blitter) : State := { State.reset with blt := b }

/-- A state after reset with words in chip memory. -/
def withMem (words : List (ChipAddr × Word)) (s : State) : State :=
  { s with mem := words.foldl (fun m x => m.writeWord x.1 x.2) s.mem }

/-- DMA on, the A,B,C,D channels selected, a 2 by 2 transfer in the size register. -/
def readyToStart : State :=
  { withBlt { Blitter.reset with bltcon0 := 0x0FF0, bltsize := 0x0082 } with dmacon := 0x0240, clock := 1000 }

/-- A running transfer at micro-instruction `upc` of the A,B,C,D program. -/
def running (upc : BitVec 6) (wc hc : Nat) : State :=
  withBlt { Blitter.reset with state := .running, prog := some Config.programABCD, chmask := 0xF, bltcon0 := 0x0FF0,
                               upc := upc, wload := 2, wc := wc, hc := hc }

/-- A program of one word. -/
def holding (u : Word) : State := withBlt { Blitter.reset with state := .running, prog := some [u] }

/-- At column 0x37, owned by plane 1, next 0x3B. -/
def atPlane1 : State :=
  { State.reset with
    clock := 0x37, column := 0x37
    owner := State.reset.owner.set 0x37 (.bpl 0)
    next := State.reset.next.set 0x37 (some 0x3B)
    bplpt := State.reset.bplpt.set 0 0x10000 }

/-- The present column owned by `o`, none after it. -/
def owned (o : Owner) : State := { State.reset with owner := State.reset.owner.set 0 o }

/-- A state with a fault. -/
def halted : State := { State.reset with fault := some (.bpuOutOfRange 7) }

/-- The inputs of R207. -/
def r207 : State := { State.reset with dmacon := 0x0300, ddfstrt := 0x30, ddfstop := 0x90, pixel := ⟨false, 2⟩ }

/-! ### WellFormed: each check refuses an ill-formed term -/

theorem test_wellFormed_accepts : Instr.wellFormed (.loopback 63 0x7F) = true ∧
    Instr.wellFormed (.dmacon (.sized .write 8 [1])) = true ∧ Instr.wellFormed (.vposr .peek) = true := by decide

theorem test_illFormed_loopback_of_zero : Instr.wellFormed (.loopback 0 0x7F) = false := by decide

theorem test_illFormed_sized_access_of_sixteen : Instr.wellFormed (.dmacon (.sized .write 16 [1])) = false := by decide

/-! ### Words written out from the encodings (R110, R115, R121, R290) -/

theorem test_decode_fetch_c : decodeUword 0b0000000000000100 = .ok .fetchC := by decide
theorem test_decode_hold_a : decodeUword 0b0000000000001000 = .ok .holdA := by decide
theorem test_decode_write_d : decodeUword 0b0000000001000000 = .ok .writeD := by decide
theorem test_decode_loopback : decodeUword 0b0000001110000000 = .ok (.loopback 3 0) := by decide
theorem test_decode_bltidle : decodeUword 0b0000000000000000 = .ok .bltidle := by decide

/-- R115: the last word of the A,B,C,D program. -/
theorem test_decode_canonical_word :
    decodeMicro 0x03F8 = .ok [.holdA, .holdB, .holdD, .writeD, .loopback 3 0x78] := by decide

/-- R113: the three illegal forms. -/
theorem test_illegal_words : decodeUword 0x4001 = .error .reservedBits ∧
    decodeUword 0x0101 = .error .offsetWithoutLoopback ∧ decodeUword 0x0080 = .error .loopbackWithoutOffset := by decide

/-- R290: DMACON is at 0x096, VHPOSR at 0x006, AUD3LCH at 0x0D0. -/
theorem test_decode_poke : decode ⟨.poke, 16, 0x096, [0x8300]⟩ = .ok (.dmacon (.poke 0x8300)) := by decide
theorem test_decode_peek : decode ⟨.peek, 16, 0x006, []⟩ = .ok (.vhposr .peek) := by decide
theorem test_decode_pointer : decode ⟨.poke, 16, 0x0D0, [5]⟩ = .ok (.aud3lch (.poke 5)) := by decide

/-- R302: a byte poke, with its value and without; a 32-bit access. -/
theorem test_decode_other_widths : decode ⟨.poke, 8, 0x096, [0x12]⟩ = .ok (.dmacon (.sized .write 8 [0x12])) ∧
    decode ⟨.poke, 8, 0x096, []⟩ = .ok (.dmacon (.sized .write 8 [])) ∧
    decode ⟨.peek, 32, 0x004, []⟩ = .ok (.vposr (.sized .read 32 [])) := by decide

/-- R306: a name outside R290 (COLOR00 at 0x180). -/
theorem test_decode_foreign : decode ⟨.poke, 16, 0x180, [1]⟩ = .error (.foreignRegister 0x180) := by decide

/-- R121: SCHEDULE is 0x01, RESET 0x10; 0x11 is no operation. -/
theorem test_decode_iface : decode ⟨.iface, 8, 0x01, [1, 5, 1, 9]⟩ = .ok (.schedule .dma 5 1 9) ∧
    decode ⟨.iface, 8, 0x10, []⟩ = .ok .reset ∧ decode ⟨.iface, 8, 0x05, [100, 50]⟩ = .ok (.beamToCycle none 100 50) ∧
    decode ⟨.iface, 8, 0x11, []⟩ = .error (.unknownOperation 0x11) := by
  decide

/-- Rows of the table by their own bits, and where step runs them. -/
theorem test_table_word : decodeTableWord 16 0x0096 = some (.dmacon (.poke 0)) ∧ decodeTableWord 8 0x04 = some .tick ∧
    decodeTableWord 16 0x0004 = some .fetchC := by decide

theorem test_step_runs_a_placed_word : (after (step (State.reset.withFetchWord 8 0x04))).clock = 1 ∧
    (after (step (State.reset.withFetchWord 16 0x0004))).blt.upc = 1 := by decide +kernel

/-! ### Event Scheduler -/

/-- R141's example. -/
theorem test_schedule : (after (exec (.schedule .blitter 1 2 0) { State.reset with clock := 100 })).slots.blitter =
    some ⟨101, .bltStep, 0⟩ := by decide

/-- R141: offset 0 for the dispatching slot is in the past. -/
theorem test_schedule_in_past :
    (after (exec (.schedule .copper 0 3 0) { State.reset with clock := 9, passing := some .copper })).fault =
      some (.scheduleInPast .copper 9) := by decide

/-- R142's example. -/
theorem test_cancel : (after (exec (.cancel .dma)
    { State.reset with slots := Slots.reset.set .dma (some ⟨500, .dmaFetch, 0x37⟩) })).slots.dma = none := by decide

/-- R147: a target not after the clock is a no-op. -/
theorem test_advanceTo_past : (after (exec (.advanceTo 5) { State.reset with clock := 7 })).clock = 7 := by decide

/-- R147: the HSYNC at 0 is among the passes; R31: the next is due at 227. -/
theorem test_advanceTo : (after (exec (.advanceTo 2) State.reset)).clock = 2 ∧
    (after (exec (.advanceTo 2) State.reset)).slots.raster = some ⟨227, .hsync, 0⟩ := by decide +kernel

/-! ### Beam Tracker -/

/-- R171's example. -/
theorem test_tick_wraps_the_frame :
    (after (exec .tick { State.reset with clock := 71050, line := 312, column := 226 })).frame = 1 ∧
    (after (exec .tick { State.reset with clock := 71050, line := 312, column := 226 })).clock = 71051 := by decide

/-- R173: example and corner case. -/
theorem test_cycleToBeam : (after (exec (.cycleToBeam 22750) State.reset)).reply = .beam 0 100 50 ∧
    (after (exec (.cycleToBeam 71050) State.reset)).reply = .beam 0 312 226 := by decide

/-- R174: example; R175: out of range. -/
theorem test_beamToCycle : (after (exec (.beamToCycle (some 0) 100 50) State.reset)).reply = .cycle (some 22750) ∧
    (after (exec (.beamToCycle (some 0) 313 0) State.reset)).reply = .cycle none := by decide

/-- R174: the short form is for the current frame (71051 + 22750). -/
theorem test_beamToCycle_short : (after (exec (.beamToCycle none 100 50) { State.reset with frame := 1 })).reply =
    .cycle (some 93801) := by decide

/-- R176's example: LINE, then FRAME, next HSYNC at 71278. -/
theorem test_hsync :
    (after (exec .hsyncFire { State.reset with clock := 71051, frame := 1 })).history =
      [⟨71051, .notify .line⟩, ⟨71051, .notify .frame⟩] ∧
    (after (exec .hsyncFire { State.reset with clock := 71051, frame := 1 })).slots.raster = some ⟨71278, .hsync, 0⟩ := by
  decide +kernel

/-! ### Slot Allocator and Dispatcher -/

/-- R207. -/
theorem test_rebuild : (after (exec .rebuild r207)).first = some 0x33 ∧
    (after (exec .rebuild r207)).lastFetch = #v[some 0x8F, some 0x8B, none, none, none, none] := by decide +kernel

/-- R198: plane 4 at 0x19 takes the column of SPR(1, 0). -/
theorem test_rebuild_overwrites :
    (after (exec .rebuild { State.reset with dmacon := 0x0320, ddfstrt := 0x18, ddfstop := 0xD0, pixel := ⟨false, 4⟩ })).ownerAt
      0x19 = .bpl 3 := by decide +kernel

/-- R220's example. -/
theorem test_dmaFire : (after (exec (.dmaFire 0x37) (withMem [(0x10000, 0xABCD)] atPlane1))).bpldat = #v[0xABCD, 0, 0, 0, 0, 0] ∧
    (after (exec (.dmaFire 0x37) atPlane1)).slots.dma = some ⟨0x3B, .dmaFetch, 0x3B⟩ := by decide +kernel

/-- R222's example. -/
theorem test_dmaFire_last_fetch :
    ((after (exec (.dmaFire 0x8F)
      { State.reset with
        clock := 0x8F, column := 0x8F, owner := State.reset.owner.set 0x8F (.bpl 0), bpl1mod := 0x0010
        bplpt := State.reset.bplpt.set 0 0x10016, lastFetch := State.reset.lastFetch.set 0 (some 0x8F) })).bplpt[0]) =
      0x10028 := by decide +kernel

/-! ### Blitter -/

/-- R246's example. -/
theorem test_bltStart : (after (exec .bltStart readyToStart)).slots.blitter = some ⟨1001, .bltStep, 0⟩ ∧
    (after (exec .bltStart readyToStart)).blt.hc = 2 := by decide

/-- R246: a configured delay. -/
theorem test_bltStart_delay : (after (exec .bltStart { readyToStart with cfg.blitStartDelay := 3 })).slots.blitter =
    some ⟨1003, .bltStep, 0⟩ := by decide

/-- R243: LINE mode is refused. -/
theorem test_bltStart_mode : (after (exec .bltStart { readyToStart with blt.bltcon1 := 1 })).fault =
    some (.unimplBlitMode 1) := by decide

/-- R247's example. -/
theorem test_bltStepFire : (after (exec .bltStepFire (running 0 2 2))).blt.upc = 1 ∧
    (after (exec .bltStepFire (running 0 2 2))).history = [⟨0, .read 0⟩] := by decide

/-- R259: the step that counts the last word writes it and goes idle. -/
theorem test_bltStepFire_ends : (after (exec .bltStepFire (running 3 1 1))).blt.state = .idle ∧
    (after (exec .bltStepFire (running 3 1 1))).history = [⟨0, .write 0 0⟩] := by decide

/-- R249's example. -/
theorem test_fetchC : (after (exec .fetchC (withMem [(0x4000, 0xCCCC)] (withBlt { Blitter.reset with cpt := 0x4000 })))).blt.chold =
    0xCCCC ∧ (after (exec .fetchC (withBlt { Blitter.reset with cpt := 0x4000 }))).blt.cpt = 0x4002 := by decide

/-- R250's example. -/
theorem test_fetchA : (after (exec .fetchA (withBlt { Blitter.reset with apt := 0x1002, amod := 2, last := true }))).blt.apt =
    0x1006 := by decide

/-- R251's example. -/
theorem test_fetchB : (after (exec .fetchB (withBlt { Blitter.reset with bpt := 0x3000 }))).blt.bpt = 0x3002 := by decide

/-- R95: an advance past the top of the space wraps. -/
theorem test_fetchB_wraps : (after (exec .fetchB (withBlt { Blitter.reset with bpt := 0x7FFFE }))).blt.bpt = 0 := by decide

/-- R253's example. -/
theorem test_holdA :
    (after (exec .holdA (withBlt { Blitter.reset with bltcon0 := 0x4000, aold := 0x1234, anew := 0x5678, bltalwm := 0xFF00, last := true }))).blt.ahold =
      0x4560 := by decide

/-- R254's example. -/
theorem test_holdB :
    (after (exec .holdB (withBlt { Blitter.reset with bltcon1 := 0x8000, bnew := 0xF0F0 }))).blt.bhold = 0x00F0 := by decide

/-- R255's example of the counters, with R257's example of the combiner. -/
theorem test_holdD :
    (after (exec .holdD (withBlt { Blitter.reset with bltcon0 := 0x0080, ahold := 0xFF00, bhold := 0xF0F0, chold := 0xCCCC,
                                                      wc := 1, hc := 2, wload := 2 }))).blt.dhold = 0xC000 ∧
    (after (exec .holdD (withBlt { Blitter.reset with wc := 1, hc := 2, wload := 2 }))).blt.wc = 2 := by decide

/-- R256's example. -/
theorem test_writeD :
    (after (exec .writeD (withBlt { Blitter.reset with dpt := 0x2002, dhold := 0x2222, dmod := 4, last := true }))).blt.dpt =
      0x2008 ∧
    (after (exec .writeD (withBlt { Blitter.reset with dpt := 0x2002, dhold := 0x2222 }))).mem =
      [(0x2002, 0x22), (0x2003, 0x22)] := by decide

/-- R258's example. -/
theorem test_loopback : (after (exec (.loopback 3 0) (running 3 2 2))).blt.upc = 0 := by decide

/-- R258: a loop-back below index 0. -/
theorem test_loopback_below_zero : (after (exec (.loopback 3 0) (running 2 2 2))).fault =
    some (.illegalMicroword 2 0x0380) := by decide

/-- R114; R258: past the last word. -/
theorem test_bltidle : (after (exec .bltidle (running 2 2 2))).blt.upc = 3 ∧
    (after (exec .bltidle (running 3 2 2))).fault = some (.micropcOverrun 3) := by decide

/-- R263's examples. -/
theorem test_shift : shift 0x1234 0x5678 4 = 0x4567 ∧ shift 0x1234 0x5678 15 = 0x2468 ∧ shift 0 0x1234 4 = 0x0123 := by
  decide

/-- R252's example: a negative modulo. -/
theorem test_badv : badv 0x1000 0xFFFC true = 0x0FFE ∧ badv 0x2002 0x0004 true = 0x2008 := by decide

/-! ### Register interface -/

/-- R292's example: set, then clear of the master enable. -/
theorem test_dmacon : (after (exec (.dmacon (.poke 0x8300)) State.reset)).dmacon = 0x0300 ∧
    (after (exec (.dmacon (.poke 0x0200)) { State.reset with dmacon := 0x0300 })).dmacon = 0x0100 := by decide +kernel

/-- R260: clearing BLTEN abandons a running transfer. -/
theorem test_dmacon_aborts : (after (exec (.dmacon (.poke 0x0040)) { running 1 2 2 with dmacon := 0x0240 })).blt.state =
    .idle := by decide +kernel

/-- R293's example. -/
theorem test_ddfstrt : (after (exec (.ddfstrt (.poke 0x1230)) State.reset)).ddfstrt = 0x0030 := by decide +kernel

/-- R294's example. -/
theorem test_bpl1pth : (after (exec (.bpl1pth (.poke 0xFFF1))
    { State.reset with bplpt := State.reset.bplpt.set 0 0xABC })).bplpt = #v[0x10ABC, 0, 0, 0, 0, 0] := by decide

/-- R295's example. -/
theorem test_bltaptl : (after (exec (.bltaptl (.poke 0x1001)) (withBlt { Blitter.reset with apt := 0x20000 }))).blt.apt =
    0x21000 := by decide

/-- R296's example. -/
theorem test_bpl2mod : (after (exec (.bpl2mod (.poke 0xFFF1)) State.reset)).bpl2mod = 0xFFF0 := by decide

/-- R297's example; R242: a second start while one runs. -/
theorem test_bltsize : (after (exec (.bltsize (.poke 0x0082)) readyToStart)).blt.state = .initializing ∧
    (after (exec (.bltsize (.poke 0x0041)) { running 1 2 2 with dmacon := 0x0240 })).fault = some (.blitBusy 0x0041) := by
  decide

/-- R303's example; R261. -/
theorem test_bltcon0 : (after (exec (.bltcon0 (.poke 0x09F0)) State.reset)).blt.bltcon0 = 0x09F0 ∧
    (after (exec (.bltcon0 (.poke 0x0EF0)) (running 1 2 2))).fault = some (.blitChannelsChanged 0xF 0xE) := by decide

/-- R304's and R305's examples. -/
theorem test_bltcon1 : (after (exec (.bltcon1 (.poke 0x4000)) State.reset)).blt.bltcon1 = 0x4000 := by decide
theorem test_bltalwm : (after (exec (.bltalwm (.poke 0xFF00)) State.reset)).blt.bltalwm = 0xFF00 := by decide

/-- R298's example. -/
theorem test_vposr : (after (exec (.vposr .peek) { State.reset with line := 300 })).reply = .word 0x8001 := by decide

/-- R299's examples. -/
theorem test_vhposr : (after (exec (.vhposr .peek) { State.reset with line := 100, column := 50 })).reply = .word 0x6432 ∧
    (after (exec (.vhposr .peek) { State.reset with line := 300, column := 0x10 })).reply = .word 0x2C10 := by decide

/-- R300, R301, R302. -/
theorem test_access_violations : (after (exec (.dmacon .peek) State.reset)).fault = some (.readWriteOnly .dmacon) ∧
    (after (exec (.vposr (.poke 1)) State.reset)).fault = some (.writeReadOnly .vposr) ∧
    (after (exec (.vposr (.sized .write 8 [0])) State.reset)).fault = some (.badAccessWidth .vposr 8) := by decide

/-- The spec's vector V-I13: a byte poke of DMACON, through the step. -/
theorem test_byte_poke : (after (step (State.reset.withPacket ⟨.poke, 8, 0x096, [0x12]⟩))).fault =
    some (.badAccessWidth .dmacon 8) := by decide

/-- R60: a refused peek and a refused poke are recorded. -/
theorem test_refused_accesses_are_recorded :
    (after (exec (.dmacon .peek) State.reset)).history = [⟨0, .peek .dmacon⟩, ⟨0, .fault (.readWriteOnly .dmacon)⟩] ∧
    (after (exec (.vposr (.poke 1)) State.reset)).history =
      [⟨0, .poke .vposr 1⟩, ⟨0, .fault (.writeReadOnly .vposr)⟩] := by decide

/-! ### Faults and host controls -/

/-- R341: refused while halted; R362: the snapshot is admitted; R380: RESET empties the fault. -/
theorem test_halted : (after (exec .tick halted)).clock = 0 ∧
    (after (exec .hostSnapshot halted)).reply = .snapshot halted.toCore ∧ (after (exec .reset halted)).fault = none := by
  decide +kernel

/-- R364's example. -/
theorem test_hostStep : (after (exec .hostStep State.reset)).clock = 1 ∧ (after (exec .hostStep State.reset)).column = 1 := by
  decide +kernel

/-- R361. -/
theorem test_hostPause : (after (exec .hostPause State.reset)).paused = true ∧
    (after (exec .hostResume { State.reset with paused := true })).paused = false := by decide

/-- R127: the expansions. -/
theorem test_pseudo : pokel .dsk 0x00051234 = [.dskpth (.poke 5), .dskptl (.poke 0x1234)] ∧
    dmaOn 0xF300 = [.dmacon (.poke 0x8300)] ∧ blit 64 1024 = [.bltsize (.poke 0)] := by decide

/-! ### Witnesses: a state and operands that meet the hypotheses of each obligation, one for each of its clauses -/

/-- The outcome is a next state. -/
def isNext : Host.Outcome State Fault Refusal → Bool
  | .next _ => true
  | .fault _ => false
  | .refused _ => false

theorem eq_after {o : Host.Outcome State Fault Refusal} (h : isNext o = true) : o = .next (after o) := by
  cases o <;> first | rfl | simp [isNext] at h

/-- For the statements whose only hypotheses are an empty fault register and a bit's index: CancelEmptiesItsSlot,
BeamConversionsReply, FetchActions, MintermIsTheSelectedFunction, ShiftJoinsTwoWords, PointerHighPokes, PointerLowPokes,
ModuloPokes, FetchWindowPokes, PlainBlitterPokes, BltStartRefusesInOrder. -/
theorem test_witness_no_fault : State.reset.fault = none ∧ 0 < 16 ∧ 15 < 16 := by decide

theorem test_witness_DecodeEncodeRoundTrip : Instr.wellFormed (.loopback 1 0) = true ∧
    Instr.wellFormed (.schedule .inspection (-1) 7 0xFFFFFFFFFFFFFFFF) = true ∧
    Instr.wellFormed (.spr7ptl (.sized .read 32 [])) = true ∧ Instr.wellFormed (.beamToCycle none (-1) 0) = true := by decide

theorem test_witness_MicroWordHasOneRow : decodeUword 0x3FFF = .ok (.loopback 63 0x7F) ∧
    decodeUword 0x0020 = .ok .holdD := by decide

theorem test_witness_MicroDecodeGivesTheActions : Claims.Legal 0x3FFF ∧ Claims.Legal 0x0000 ∧ ¬ Claims.Legal 0x4000 ∧
    ¬ Claims.Legal 0x0100 ∧ ¬ Claims.Legal 0x0080 := by unfold Claims.Legal; decide

theorem test_witness_IllegalMicroWordFaults : (holding 0x0080).fault = none ∧
    (holding 0x0080).blt.prog = some [0x0080] ∧ ([0x0080] : List Word)[(holding 0x0080).blt.upc.toNat]? = some 0x0080 ∧
    ¬ Claims.Legal 0x0080 := by unfold Claims.Legal; decide

theorem test_witness_StepRunsDecodedOperation :
    ({ State.reset with inbox := [.op ⟨.iface, 8, 4, []⟩] } : State).inbox = .op ⟨.iface, 8, 4, []⟩ :: [] ∧
    (⟨.iface, 8, 4, []⟩ : Packet).format ≠ .uword ∧ decode ⟨.iface, 8, 4, []⟩ = .ok .tick := by decide

theorem test_witness_StepWithoutOperation : (State.reset.inbox = [] ∧ State.reset.paused = false) ∧
    (({ State.reset with paused := true } : State).inbox = [] ∧ ({ State.reset with paused := true } : State).paused = true) ∧
    decode ⟨.poke, 16, 0x180, [1]⟩ = .error (.foreignRegister 0x180) ∧ (⟨.uword, 16, 1, []⟩ : Packet).format = .uword ∧
    decode ⟨.poke, 16, 0x096, []⟩ = .error .badOperands ∧
    ({ State.reset with inbox := [.pixel ⟨true, 6⟩] } : State).inbox = .pixel ⟨true, 6⟩ :: [] ∧
    ({ State.reset with inbox := [.write 0x7FFFE 0xFFFF] } : State).inbox = .write 0x7FFFE 0xFFFF :: [] := by
  decide

/-- All clauses: the last step of a transfer, a step that goes on, a step past the program's end. -/
theorem test_witness_MicroStepRunsItsActions :
    ((running 3 1 1).fault = none ∧ (running 3 1 1).blt.prog = some Config.programABCD ∧
      Config.programABCD[(running 3 1 1).blt.upc.toNat]? = some 0x03F8 ∧
      decodeMicro 0x03F8 = .ok [.holdA, .holdB, .holdD, .writeD, .loopback 3 0x78] ∧
      (after (exec .bltStepFire (running 3 1 1))).blt.done = true) ∧
    (after (exec .bltStepFire (running 3 2 1))).blt.done = false ∧
    (after (exec .bltStepFire (running 3 2 1))).fault = none ∧
    (after (exec .bltStepFire (holding 0x0001))).fault = some (.micropcOverrun 0) := by decide

theorem test_witness_ResetLeaves : State.reset.passing = none ∧ halted.passing = none := by decide

/-- The kind's two limits; the trigger just below and at earliest(s), between passes and inside one. -/
theorem test_witness_ScheduleInstallsOrFaults : State.reset.fault = none ∧
    (7 ≤ 7 ∨ 7 ≠ (slotKind .dma).code) ∧ (7 ≤ 2 ∨ 2 ≠ (slotKind .dma).code) ∧ 1 = (slotKind .dma).code ∧
    ((State.reset.clock : Int) + -1 < (Claims.earliest State.reset .dma : Int)) ∧
    ((Claims.earliest State.reset .dma : Int) ≤ (State.reset.clock : Int) + 0) ∧
    (((State.reset.setPassing (some .dma)).clock : Int) + 0 < (Claims.earliest (State.reset.setPassing (some .dma)) .dma : Int)) ∧
    ((Claims.earliest (State.reset.setPassing (some .raster)) .dma : Int) ≤
      ((State.reset.setPassing (some .raster)).clock : Int) + 0) := by decide

/-- A target at the clock; a pass that goes on; a pass that faults. -/
theorem test_witness_AdvanceToRunsCycleByCycle : State.reset.fault = none ∧ 0 ≤ State.reset.clock ∧
    State.reset.clock < 1 ∧ (pass State.reset).fault = none ∧
    (pass { State.reset with pixel := ⟨false, 7⟩ }).fault = some (.bpuOutOfRange 7) := by decide +kernel

theorem test_witness_AdvanceToComposes : 1 ≤ 2 ∧ exec (.advanceTo 1) State.reset = .next (after (exec (.advanceTo 1) State.reset)) :=
  ⟨by decide, eq_after rfl⟩

/-- The entry at the target itself, and one in the past, both stay. -/
theorem test_witness_QuietCyclesMoveOnlyTheBeam :
    ∃ s : State, s.fault = none ∧ s.passing = none ∧ s.BeamOk ∧ s.clock ≤ 227 ∧
      ∀ x e, s.slots.get x = some e → e.trigger < s.clock ∨ 227 ≤ e.trigger := by
  refine ⟨{ State.reset with
    clock := 1, column := 1
    slots := (Slots.reset.set .raster (some ⟨227, .hsync, 0⟩)).set .ciaa (some ⟨0, .ciaEvent, 0⟩) },
    rfl, rfl, rfl, by decide, ?_⟩
  intro x e h
  cases x <;> cases h <;> decide

/-- All eight slots due, with one handler script for the five collaborators. -/
def allDue : State :=
  { State.reset with
    slots := ⟨some ⟨0, .hsync, 0⟩, some ⟨0, .dmaFetch, 0⟩, some ⟨0, .bltStep, 0⟩, some ⟨0, .copEvent, 0⟩,
      some ⟨0, .dskEvent, 0⟩, some ⟨0, .ciaEvent, 0⟩, some ⟨0, .ciaEvent, 1⟩, some ⟨0, .insEvent, 0⟩⟩
    owner := State.reset.owner.set 0 .disk
    blt := (running 0 2 2).blt
    handlers := [[.schedule .inspection 0 6 9, .write 2 0xFFFF]] }

/-- A cycle with the DMA and the Blitter slot due: both handlers complete, the Blitter's faults, the DMA's faults. -/
def bothDue (s : State) : State :=
  { s with slots := { Slots.reset with
      raster := some ⟨227, .hsync, 0⟩, dma := some ⟨s.clock, .dmaFetch, 0x37⟩, blitter := some ⟨s.clock, .bltStep, 0⟩ } }

/-- R144 with another order of the peripheral slots (D7): INSPECTION before DISK, and after it in the default order. -/
theorem test_slot_order_is_replaceable :
    (after (exec (.schedule .disk 0 4 0) { State.reset with passing := some .inspection })).fault =
      some (.scheduleInPast .disk 0) ∧
    (after (exec (.schedule .disk 0 4 0)
      { State.reset with passing := some .inspection, cfg.peripheralOrder := #v[.inspection, .ciab, .ciaa, .disk] })).fault =
      none := by decide

/-- A pass in which many slots are due, one that faults, and DMA with the Blitter: the dispatches of the first in order. -/
theorem test_witness_PassRunsTheDueSlotsInOrder : allDue.fault = none ∧ (pass allDue).fault = none ∧
    ((pass allDue).history.filterMap fun r => match r.what with | .dispatch x _ _ => some x | _ => none) =
      [.raster, .blitter, .copper, .disk, .ciaa, .ciab, .inspection] ∧
    (pass { State.reset with pixel := ⟨false, 7⟩ }).fault = some (.bpuOutOfRange 7) := by decide +kernel

theorem test_dma_runs_before_the_blitter :
    (∀ s ∈ [bothDue { atPlane1 with blt := (running 0 2 2).blt }, bothDue atPlane1,
          bothDue { State.reset with clock := 0x37, column := 0x37 }],
      s.fault = none ∧ s.slots.dma = some ⟨s.clock, .dmaFetch, 0x37⟩ ∧ s.slots.blitter = some ⟨s.clock, .bltStep, 0⟩ ∧
      ∀ e, (s.slots.raster = some e ∨ s.slots.copper = some e) → e.trigger ≠ s.clock) ∧
    (after (exec (.advanceTo 0x38) (bothDue { atPlane1 with blt := (running 0 2 2).blt }))).fault = none ∧
    (after (exec (.advanceTo 0x38) (bothDue atPlane1))).fault = some (.micropcOverrun 0) ∧
    (after (exec (.advanceTo 0x38) (bothDue { State.reset with clock := 0x37, column := 0x37 }))).fault =
      some (.dmaUnownedColumn 0x37) := by
  refine ⟨?_, by decide +kernel, by decide +kernel, by decide +kernel⟩
  intro s hs
  simp only [List.mem_cons, List.not_mem_nil, or_false] at hs
  rcases hs with rfl | rfl | rfl <;> refine ⟨rfl, rfl, rfl, ?_⟩ <;> rintro e (h | h) <;> cases h <;> decide

theorem test_witness_EmptySlotNeverFires : State.reset.fault ≠ some (.emptySlotFired .dma) ∧
    exec .tick State.reset = .next (after (exec .tick State.reset)) := ⟨by decide, eq_after rfl⟩

/-- Column 225, column 226 within a frame, column 226 of the last line. -/
theorem test_witness_TickMovesTheBeam : State.reset.fault = none ∧
    ({ State.reset with column := 225 } : State).column + 1 ≠ 227 ∧
    (({ State.reset with column := 226, line := 311 } : State).column + 1 = 227 ∧
      ({ State.reset with column := 226, line := 311 } : State).line + 1 ≠ 313) ∧
    (({ State.reset with column := 226, line := 312 } : State).column + 1 = 227 ∧
      ({ State.reset with column := 226, line := 312 } : State).line + 1 = 313) := by decide

/-- The range's limits; the short form has no hypothesis of its own. -/
theorem test_witness_BeamConversions : State.reset.fault = none ∧ 312 < 313 ∧ 226 < 227 := by decide

/-- The plane count's two limits, for HSYNC_FIRE and REBUILD. -/
theorem test_witness_plane_counts : ({ State.reset with pixel := ⟨false, 6⟩ } : State).fault = none ∧
    ({ State.reset with pixel := ⟨false, 6⟩ } : State).pixel.bpu ≤ 6 ∧
    6 < ({ State.reset with pixel := ⟨false, 7⟩ } : State).pixel.bpu := by decide

/-- The hypotheses of the statements about a rebuilt table, with every enable bit set. -/
theorem test_witness_rebuilt_tables :
    ∃ s t : State, s.fault = none ∧ s.pixel.bpu ≤ 6 ∧ s.column < 227 ∧ exec .rebuild s = .next t ∧
      s.cfg.loresOffset = #v[7, 3, 5, 1, 6, 2] ∧ s.cfg.hiresOffset = #v[3, 1, 2, 0] ∧
      s.cfg.fixedSlots = Config.defaultFixedSlots ∧ (∀ p, t.owner[0x07]? ≠ some (.bpl p)) ∧
      t.owner[0x07]? = some .disk ∧ t.owner[0x13]? = some (.aud 3) ∧ t.owner[0x33]? = some (.spr 7 1) ∧
      t.owner[0xD6]? = some (.bpl 0) := by
  refine ⟨{ State.reset with dmacon := 0x07FF, ddfstrt := 0x3F, ddfstop := 0xFF, pixel := ⟨false, 6⟩ }, _, rfl, by decide,
    by decide, eq_after rfl, rfl, rfl, rfl, ?_, ?_, ?_, ?_, ?_⟩ <;> decide +kernel

/-- R200's three outcomes: the present column, a later one, none. -/
theorem test_witness_RebuildReschedulesDma :
    (after (exec .rebuild { r207 with clock := 0x33, column := 0x33 })).slots.dma = some ⟨0x33, .dmaFetch, 0x33⟩ ∧
    (after (exec .rebuild { r207 with clock := 0x33, column := 0x33, passing := some .copper })).slots.dma =
      some ⟨0x37, .dmaFetch, 0x37⟩ ∧
    (after (exec .rebuild { r207 with clock := 0x90, column := 0x90 })).slots.dma = none := by decide +kernel

theorem test_witness_NoDmaWithoutTheMasterEnable : State.reset.fault = none ∧ State.reset.pixel.bpu ≤ 6 ∧
    ({ State.reset with dmacon := 0x05FF } : State).dmacon.getLsbD 9 = false := by decide

theorem test_witness_RebuildIsIdempotent : exec .rebuild r207 = .next (after (exec .rebuild r207)) ∧
    exec .rebuild { r207 with bplpt := #v[2, 2, 2, 2, 2, 2] } =
      .next (after (exec .rebuild { r207 with bplpt := #v[2, 2, 2, 2, 2, 2] })) := ⟨eq_after rfl, eq_after rfl⟩

/-- Plane 1, a later populated column, and none. -/
theorem test_witness_DmaFireFetchesABitplane : atPlane1.fault = none ∧ atPlane1.owner[atPlane1.column]? = some (.bpl 0) ∧
    atPlane1.next[atPlane1.column]? = some (some 0x3B) ∧ atPlane1.column < 0x3B ∧
    (owned (.bpl 5)).owner[(owned (.bpl 5)).column]? = some (.bpl 5) ∧
    (owned (.bpl 5)).next[(owned (.bpl 5)).column]? = some none := by decide +kernel

theorem test_witness_DmaFireFetchesTheOthers : (owned .disk).fault = none ∧ (owned .disk).next[(owned .disk).column]? = some none ∧
    (owned (.aud 3)).owner[(owned (.aud 3)).column]? = some (.aud 3) ∧
    (owned (.spr 7 1)).owner[(owned (.spr 7 1)).column]? = some (.spr 7 1) ∧
    (owned .disk).owner[(owned .disk).column]? = some .disk ∧
    (owned .none).owner[(owned .none).column]? = some .none := by decide +kernel

/-- `readyToStart` meets the preconditions of a start. -/
theorem test_witness_BltStartBegins : readyToStart.fault = none ∧ Claims.StartOk readyToStart Config.programABCD ∧
    Claims.DelayOk readyToStart ∧ ¬ Claims.DelayOk { readyToStart with cfg.blitStartDelay := 0, passing := some .copper } :=
  ⟨rfl, ⟨rfl, rfl, rfl, rfl, rfl⟩, by unfold Claims.DelayOk; decide, by unfold Claims.DelayOk; decide⟩

/-- One state for each refusal. -/
theorem test_witness_BltStartRefusesInOrder : (running 0 2 2).fault = none ∧ (running 0 2 2).blt.state ≠ .idle ∧
    ({ readyToStart with dmacon := 0x0200 } : State).dmacon.getLsbD 6 = false ∧
    ({ readyToStart with dmacon := 0x0040 } : State).dmacon.getLsbD 9 = false ∧
    readyToStart.blt.state = .idle ∧ readyToStart.dmacon.getLsbD 9 = true ∧ readyToStart.dmacon.getLsbD 6 = true ∧
    (0x0010 : Word) &&& 0x001B ≠ 0 ∧ readyToStart.blt.bltcon1 &&& 0x001B = 0 ∧
    Config.default.microcode[((0x0DF0 : Word).extractLsb' 8 4).toFin] = none := by decide

theorem test_witness_HoldActions : State.reset.fault = none ∧
    (0 : Word) = State.reset.blt.anew &&& (if State.reset.blt.first then State.reset.blt.bltafwm else 0xFFFF) &&&
      (if State.reset.blt.last then State.reset.blt.bltalwm else 0xFFFF) := by decide

/-- The counters' limits: within a row, at a row's end, at the end of the transfer. -/
theorem test_witness_HoldDCountsTheWord : State.reset.fault = none ∧
    (0 : Word) = minterm (State.reset.blt.bltcon0.extractLsb' 0 8) State.reset.blt.ahold State.reset.blt.bhold State.reset.blt.chold ∧
    1 < (running 3 2 1).blt.wc ∧ ((running 3 1 2).blt.wc = 1 ∧ 1 < (running 3 1 2).blt.hc) ∧
    ((running 3 1 1).blt.wc = 1 ∧ (running 3 1 1).blt.hc = 1) := by decide

theorem test_witness_WriteDStoresTheWord : (withMem [(0x7FFFE, 0x1234)] State.reset).fault = none ∧
    (withMem [(0x7FFFE, 0x1234)] State.reset).mem.wf = true := by decide

/-- Offsets at and above upc; a program with and without a word after upc. -/
theorem test_witness_LoopbackAndIdleMoveUpc : (running 3 2 2).fault = none ∧ (3 : BitVec 6) ≠ 0 ∧ (3 : BitVec 6) ≤ (running 3 2 2).blt.upc ∧
    (running 2 2 2).blt.upc < (3 : BitVec 6) ∧ (running 2 2 2).blt.prog = some Config.programABCD ∧
    (running 2 2 2).blt.upc.toNat + 1 < Config.programABCD.length ∧
    Config.programABCD.length ≤ (running 3 2 2).blt.upc.toNat + 1 := by decide

theorem test_witness_TransferMovesEveryWord : readyToStart.fault = none ∧ readyToStart.RegistersOk ∧
    Claims.DelayOk readyToStart ∧ 2 = Claims.widthIn readyToStart.blt.bltsize ∧
    2 = Claims.heightIn readyToStart.blt.bltsize ∧ Claims.StartOk readyToStart [0x0004, 0x0001, 0x0002, 0x03F8] ∧
    exec .bltStart readyToStart = .next (after (exec .bltStart readyToStart)) := by
  refine ⟨rfl, ⟨?_, ?_, rfl, rfl, rfl⟩, by unfold Claims.DelayOk; decide, by decide, by decide, ⟨rfl, rfl, rfl, rfl, rfl⟩,
    eq_after rfl⟩
  · intro p
    rcases p with _ | (_ | _ | _ | _) | n | n | n <;> first | rfl | (revert n; unfold ptrOk; decide +kernel)
  · intro m
    rcases m with _ | _ | (_ | _ | _ | _) <;> rfl

/-- DMACON: a poke that abandons a transfer, and one that does not. -/
theorem test_witness_DmaconPoke : State.reset.fault = none ∧
    (0x0200 : Word) = (if (0x0040 : Word).getLsbD 15 then 0x0240 ||| (0x0040 &&& 0x07FF) else 0x0240 &&& ~~~(0x0040 &&& 0x07FF)) ∧
    ((0x0240 : Word).getLsbD 9 = true ∧ (0x0240 : Word).getLsbD 6 = true ∧
      ((0x0200 : Word).getLsbD 9 = false ∨ (0x0200 : Word).getLsbD 6 = false) ∧ (running 0 2 2).blt.state ≠ .idle) ∧
    ¬ (State.reset.dmacon.getLsbD 9 = true) := by decide

theorem test_witness_Bltcon0Poke : State.reset.blt.state = .idle ∧ (0x0F00 : Word).extractLsb' 8 4 = (running 0 2 2).blt.chmask ∧
    (running 0 2 2).blt.state ≠ .idle ∧ (0x0E00 : Word).extractLsb' 8 4 ≠ (running 0 2 2).blt.chmask := by decide

theorem test_witness_BltsizePokeStartsATransfer : readyToStart.fault = none ∧
    Claims.StartOk readyToStart Config.programABCD ∧ Claims.DelayOk readyToStart :=
  ⟨test_witness_BltStartBegins.1, test_witness_BltStartBegins.2.1, test_witness_BltStartBegins.2.2.1⟩

theorem test_witness_BeamPeeks : ({ State.reset with line := 312, column := 226 } : State).fault = none ∧
    ({ State.reset with line := 312, column := 226 } : State).line < 313 ∧
    ({ State.reset with line := 312, column := 226 } : State).column < 227 := by decide

theorem test_witness_AccessViolations : Reg.dmacon ≠ .vposr ∧ Reg.dmacon ≠ .vhposr ∧ (15 : Nat) ≠ 16 ∧ (17 : Nat) ≠ 16 := by
  decide

theorem test_witness_HostControls : State.reset.passing = none ∧ State.reset.fault = none ∧ halted.passing = none := by decide

theorem test_witness_HaltRefusesAllButSnapshotAndReset : halted.fault ≠ none ∧ Instr.tick ≠ .reset ∧ Instr.tick ≠ .hostSnapshot ∧
    exec .tick halted = .next (after (exec .tick halted)) := ⟨by decide, by decide, by decide, eq_after rfl⟩

theorem test_witness_FaultRecordIsTheLast : State.reset.fault = none ∧
    exec (.dmacon .peek) State.reset = .next (after (exec (.dmacon .peek) State.reset)) ∧
    (after (exec (.dmacon .peek) State.reset)).fault = some (.readWriteOnly .dmacon) := ⟨rfl, eq_after rfl, by decide⟩

theorem test_witness_frames : exec .fetchA State.reset = .next (after (exec .fetchA State.reset)) ∧ Instr.fetchA ≠ .reset ∧
    Instr.fetchA ≠ .tick ∧ Instr.fetchA ≠ .hostStep ∧ Instr.fetchA ≠ .writeD ∧ Instr.fetchA ≠ .bltStepFire ∧
    (∀ target, Instr.fetchA ≠ .advanceTo target) ∧
    exec .bltStepFire (running 3 2 2) = .next (after (exec .bltStepFire (running 3 2 2))) ∧ (running 3 2 2).mem.wf = true :=
  ⟨eq_after rfl, by decide, by decide, by decide, by decide, by decide, fun _ => by simp, eq_after rfl, rfl⟩

/-- BLT_STEP_FIRE at a word without WRITE_D; ADVANCE_TO with no pending step, and with a program that writes nothing. -/
theorem test_witness_OnlyWriteDStores :
    (∀ program u, (running 3 2 2).blt.prog = some program → program[0]? = some u → u.getLsbD 6 = false) ∧
    halted.fault ≠ none ∧ State.reset.handlers = [] ∧ State.reset.slots.blitter = none ∧
    (∀ program u, (holding 0x0004).blt.prog = some program → u ∈ program → u.getLsbD 6 = false) ∧
    Claims.writes (after (exec .tick State.reset)).history = Claims.writes State.reset.history := by
  refine ⟨fun program u hp hu => ?_, by decide, rfl, rfl, fun program u hp hu => ?_, by decide⟩
  · cases hp
    cases hu
    decide
  · cases hp
    cases List.mem_singleton.1 hu
    decide

/-- A state in the middle of a line, with a DMA fetch pending at 0x33, a collaborator's operation and a handler to come. -/
def midLine : State :=
  { after (exec .hostStep r207) with
    inbox := [.op ⟨.iface, 8, 1, [3, 2, 3, 7]⟩]
    handlers := [[.schedule .copper 5 3 0, .access .dmacon (.poke 0x8200)]] }

theorem test_midLine_dma : midLine.slots.dma = some ⟨0x33, .dmaFetch, 0x33⟩ := by decide +kernel

theorem test_midLine_slots : midLine.slots = { Slots.reset with
    raster := some ⟨227, .hsync, 0⟩, dma := some ⟨0x33, .dmaFetch, 0x33⟩ } := by decide +kernel

theorem test_midLine_inv : midLine.Inv := by
  refine ⟨by decide +kernel, by decide +kernel, ⟨?_, ?_, by decide +kernel, by decide +kernel, by decide +kernel⟩,
    by unfold State.BeamOk; decide +kernel, ⟨by decide +kernel, by decide +kernel, by decide +kernel, by decide +kernel⟩, ?_,
    ⟨by decide +kernel, by decide +kernel, by decide +kernel⟩, by unfold Config.OrderOk; decide +kernel⟩
  · intro p
    rcases p with _ | (_ | _ | _ | _) | n | n | n <;> unfold ptrOk <;> first | decide +kernel | (revert n; decide +kernel)
  · intro m
    rcases m with _ | _ | (_ | _ | _ | _) <;> unfold moduloOk <;> decide +kernel
  · intro x e h
    unfold State.slot at h
    rw [test_midLine_slots] at h
    cases x <;> cases h <;> rfl

theorem test_midLine_conforms : midLine.Conforming := by
  refine ⟨?_, ?_⟩
  · intro p i hp hd
    cases List.mem_singleton.1 hp
    cases hd
    rfl
  · intro script hs act ha
    cases List.mem_singleton.1 hs
    rcases List.mem_cons.1 ha with rfl | ha
    · rfl
    · cases List.mem_singleton.1 ha
      rfl

theorem test_midLine_raster : midLine.RasterLinked := by
  refine ⟨⟨227, .hsync, 0⟩, ?_, by decide +kernel⟩
  unfold State.slot
  rw [test_midLine_slots]
  rfl

theorem test_witness_ReadsAreAligned : midLine.Inv ∧
    exec (.dmaFire 0) { midLine with column := 0x33 } = .next (after (exec (.dmaFire 0) { midLine with column := 0x33 })) ∧
    (⟨1, .read 0⟩ ∈ (after (exec (.dmaFire 0) { midLine with column := 0x33 })).history ∧ ⟨1, .read 0⟩ ∉ midLine.history) :=
  ⟨test_midLine_inv, eq_after rfl, by decide +kernel⟩

theorem test_witness_StepKeepsInv : midLine.Inv ∧ step midLine = .next (after (step midLine)) :=
  ⟨test_midLine_inv, eq_after (by decide +kernel)⟩

theorem test_witness_ConformingStepKeepsTheLinks :
    midLine.Inv ∧ midLine.Conforming ∧ midLine.fault = none ∧ midLine.Timely ∧ midLine.BlitterLinked ∧ midLine.RasterLinked ∧
      midLine.DmaLinked ∧ step midLine = .next (after (step midLine)) ∧ (after (step midLine)).fault = none := by
  refine ⟨test_midLine_inv, test_midLine_conforms, by decide +kernel, ?_, ?_, test_midLine_raster, ?_,
    eq_after (by decide +kernel), by decide +kernel⟩
  · intro x e h
    unfold State.slot at h
    rw [test_midLine_slots] at h
    have hc : midLine.clock = 1 := by decide +kernel
    rw [hc]
    cases x <;> cases h <;> decide
  · unfold State.BlitterLinked
    decide +kernel
  · intro e h
    unfold State.slot at h
    rw [test_midLine_slots] at h
    cases h
    exact ⟨0x33, by decide +kernel, by decide, by decide +kernel, by decide, by decide +kernel⟩

theorem test_witness_OneNoticePerLineAndFrame : midLine.Inv ∧ midLine.Conforming ∧ midLine.fault = none ∧ midLine.RasterLinked ∧
    exec (.advanceTo 3) midLine = .next (after (exec (.advanceTo 3) midLine)) ∧
    (after (exec (.advanceTo 3) midLine)).fault = none :=
  ⟨test_midLine_inv, test_midLine_conforms, by decide +kernel, test_midLine_raster, eq_after (by decide +kernel),
    by decide +kernel⟩

end Sys2Proof.Tests
end

/-! Micro-words (30_encoding.md R110 to R113): legality, and the actions a legal word decodes to. -/

namespace Sys2Proof

/-- The decoder finds no error exactly in the words that R113 calls legal. -/
theorem microError_eq_none_iff_legal (u : Word) : microError u = none ↔ Claims.Legal u := by
  unfold microError microOffset Claims.Legal
  split
  case isTrue hrsv => exact iff_of_false nofun fun hlegal => hrsv hlegal.1
  case isFalse hrsv =>
    have hzero : u.extractLsb' 14 2 = 0 := not_not.mp hrsv
    cases u.getLsbD 7 <;> simp [hzero]

theorem decodeMicro_of_legal {u : Word} (h : Claims.Legal u) : decodeMicro u = .ok (microActions u) := by
  simp only [decodeMicro, (microError_eq_none_iff_legal u).mpr h]

theorem decodeMicro_of_not_legal {u : Word} (h : ¬ Claims.Legal u) : ∃ e, decodeMicro u = .error e := by
  obtain ⟨e, he⟩ := Option.ne_none_iff_exists'.mp (mt (microError_eq_none_iff_legal u).mp h)
  exact ⟨e, by simp only [decodeMicro, he]⟩

/-- An action put in front when its bit is set keeps a list within the order that has the action in front. -/
theorem whenSet_sublist_cons {rest order : List Instr} (h : rest.Sublist order) (bit : Bool) (i : Instr) :
    (whenSet bit i rest).Sublist (i :: order) := by
  cases bit
  case false => exact h.cons i
  case true => exact h.cons_cons i

/-- The actions of a word stand in the order of R248, the offset of LOOPBACK being u[13:8] (R111). -/
theorem microActions_sublist (u : Word) :
    (microActions u).Sublist [.fetchC, .fetchA, .fetchB, .holdA, .holdB, .holdD, .writeD,
      .loopback (u.extractLsb' 8 6) (u.extractLsb' 0 7)] := by
  unfold microActions
  iterate 8 refine whenSet_sublist_cons ?_ _ _
  exact List.Sublist.refl []

/-- Settles O3: the decoder's check is R113's, and a word's actions are put in front of one another in R248's order, each
when its bit is set. -/
theorem microDecodeGivesTheActions : Obligations.MicroDecodeGivesTheActions := by
  intro u
  refine ⟨fun hlegal => ⟨microActions u, decodeMicro_of_legal hlegal, microActions_sublist u, ?_⟩,
    decodeMicro_of_not_legal⟩
  simp [microActions, microOffset, mem_whenSet]

end Sys2Proof

/-! What stays the same within a cycle: no handler and no register access writes the clock (10_state.md R30), the beam (R34)
or the configuration (R10), so neither does a pass. -/

namespace Sys2Proof.Machine

/-- The clock, the beam and the configuration. -/
structure CyclePart where
  clock : Nat
  frame : Nat
  line : Nat
  column : Nat
  cfg : Config

/-- Equal parts say in one equation that an operation leaves all five fields. -/
def State.cyclePart (s : State) : CyclePart := ⟨s.clock, s.frame, s.line, s.column, s.cfg⟩

theorem clock_of_cyclePart {s t : State} (h : t.cyclePart = s.cyclePart) : t.clock = s.clock :=
  congrArg CyclePart.clock h

/-! ### The shared operations -/

@[simp] theorem log_cyclePart (s : State) (what : Happening) : (s.log what).cyclePart = s.cyclePart := rfl
@[simp] theorem storeAt_cyclePart (s : State) (a : ChipAddr) (v : Word) : (s.storeAt a v).cyclePart = s.cyclePart := rfl
@[simp] theorem setSlot_cyclePart (s : State) (x : SlotId) (e : Option Entry) : (s.setSlot x e).cyclePart = s.cyclePart := rfl
@[simp] theorem setPassing_cyclePart (s : State) (p : Option SlotId) : (s.setPassing p).cyclePart = s.cyclePart := rfl
@[simp] theorem setTable_cyclePart (s : State) (t : List Owner) : (s.setTable t).cyclePart = s.cyclePart := rfl
@[simp] theorem answer_cyclePart (s : State) (r : Reply) : (s.answer r).cyclePart = s.cyclePart := rfl
@[simp] theorem raiseFatal_cyclePart (f : Fatal) (s : State) : (raiseFatal f s).cyclePart = s.cyclePart := rfl

@[simp] theorem setPtr_cyclePart (s : State) (p : PtrId) (v : Ptr) : (s.setPtr p v).cyclePart = s.cyclePart := by
  simp [State.cyclePart]

@[simp] theorem setModulo_cyclePart (s : State) (m : ModId) (v : Word) : (s.setModulo m v).cyclePart = s.cyclePart := by
  simp [State.cyclePart]

theorem andThen_cyclePart {f g : State → State} {s : State} (hf : (f s).cyclePart = s.cyclePart)
    (hg : ∀ t, (g t).cyclePart = t.cyclePart) : (andThen f g s).cyclePart = s.cyclePart :=
  andThen_ind (P := fun t => t.cyclePart = s.cyclePart) hf fun t ht => (hg t).trans ht

/-! ### Scheduler calls and `rebuild` -/

@[simp] theorem scheduleNext_cyclePart (x : SlotId) (offset : Int) (kind : Nat) (payload : Payload) (s : State) :
    (scheduleNext x offset kind payload s).cyclePart = s.cyclePart := by
  rcases scheduleNext_cases x offset kind payload s with ⟨_, h⟩ | ⟨_, _, h⟩ | ⟨_, _, h⟩ <;> simp [h]

@[simp] theorem scheduleOwn_cyclePart (x : SlotId) (offset : Nat) (payload : Payload) (s : State) :
    (scheduleOwn x offset payload s).cyclePart = s.cyclePart := scheduleNext_cyclePart ..

@[simp] theorem cancelSlot_cyclePart (x : SlotId) (s : State) : (cancelSlot x s).cyclePart = s.cyclePart := rfl

@[simp] theorem rebuild_cyclePart (s : State) : (rebuild s).cyclePart = s.cyclePart := by
  rcases rebuild_cases s with ⟨_, h⟩ | ⟨_, e, h, _⟩ <;> simp [h]

/-! ### The Blitter (44_blitter_sequencer.md) -/

@[simp] theorem blitStart_cyclePart (s : State) : (blitStart s).cyclePart = s.cyclePart := by
  rcases blitStart_cases s with ⟨_, h⟩ | ⟨_, _, h⟩ | ⟨_, _, _, h⟩ | ⟨_, _, _, _, h⟩ | ⟨_, _, _, program, _, h⟩ <;>
    rw [h]
  case inr.inr.inr.inr => exact scheduleOwn_cyclePart ..
  all_goals exact raiseFatal_cyclePart ..

theorem runActions_cyclePart (u : Word) (s : State) : (runActions u s).cyclePart = s.cyclePart :=
  runActions_ind (P := fun t => t.cyclePart = s.cyclePart) u rfl
    (fun _ h => h) (fun _ h => h) (fun _ h => h) (fun _ h => h) (fun _ h => h) (fun _ h => h) (fun _ h => h)

theorem advanceMicro_cyclePart (u : Word) (s : State) : (advanceMicro u s).cyclePart = s.cyclePart := by
  unfold advanceMicro loopBack stepUpc
  repeat' split
  all_goals rfl

theorem finishStep_cyclePart (u : Word) (s : State) : (finishStep u s).cyclePart = s.cyclePart := by
  unfold finishStep
  split
  · rfl
  · exact andThen_cyclePart (advanceMicro_cyclePart u s) (scheduleOwn_cyclePart .blitter 1 0)

@[simp] theorem bltStep_cyclePart (s : State) : (bltStep s).cyclePart = s.cyclePart := by
  rcases bltStep_cases s with ⟨_, h⟩ | ⟨u, _, _, h⟩ | ⟨u, _, _, h⟩ <;> rw [h]
  · rfl
  · rfl
  · exact (finishStep_cyclePart u _).trans (runActions_cyclePart u _)

/-! ### The DMA Dispatcher (43_dma_dispatcher.md) -/

theorem fetchThrough_cyclePart (s : State) (p : PtrId) (m : Word) : (s.fetchThrough p m).cyclePart = s.cyclePart :=
  setPtr_cyclePart ..

theorem bplFetch_cyclePart (p : Fin 6) (c : Nat) (s : State) : (bplFetch p c s).cyclePart = s.cyclePart := by
  have hfetch := fetchThrough_cyclePart s (.bpl p) (s.fetchModulo p c)
  by_cases hp : p = 0
  · rw [bplFetch, if_pos hp]; exact hfetch
  · rw [bplFetch, if_neg hp]; exact hfetch

theorem transfer_cyclePart (o : Owner) (c : Nat) (s : State) : (transfer o c s).cyclePart = s.cyclePart := by
  cases o with
  | none => exact raiseFatal_cyclePart ..
  | disk => exact fetchThrough_cyclePart s .dsk 0
  | aud n => exact fetchThrough_cyclePart s (.aud n) 0
  | spr n k => exact fetchThrough_cyclePart s (.spr n) 0
  | bpl p => exact bplFetch_cyclePart p c s

theorem nextColumn_cyclePart (s : State) : (nextColumn s).cyclePart = s.cyclePart := by
  unfold nextColumn
  split
  · exact scheduleNext_cyclePart ..
  · rfl

@[simp] theorem dmaFire_cyclePart (payload : Payload) (s : State) : (dmaFire payload s).cyclePart = s.cyclePart :=
  andThen_cyclePart (transfer_cyclePart _ _ s) nextColumn_cyclePart

/-! ### Register accesses (45_register_interface.md) -/

theorem storeDmacon_cyclePart (v : Word) (s : State) : (storeDmacon v s).cyclePart = s.cyclePart := by
  unfold storeDmacon
  split <;> rfl

theorem pokeBltcon0_cyclePart (v : Word) (s : State) : (pokeBltcon0 v s).cyclePart = s.cyclePart := by
  unfold pokeBltcon0
  split <;> rfl

theorem pokeReg_cyclePart (r : Reg) (v : Word) (s : State) : (pokeReg r v s).cyclePart = s.cyclePart := by
  cases r with
  | vposr | vhposr | bltcon1 | bltafwm | bltalwm => rfl
  | pth p | ptl p => exact setPtr_cyclePart ..
  | mod m => exact setModulo_cyclePart ..
  | bltcon0 => exact pokeBltcon0_cyclePart v s
  | bltsize => exact blitStart_cyclePart _
  | ddfstrt | ddfstop => exact rebuild_cyclePart _
  | dmacon => exact (rebuild_cyclePart _).trans (storeDmacon_cyclePart v s)

theorem peekReg_cyclePart (r : Reg) (s : State) : (peekReg r s).cyclePart = s.cyclePart := by
  cases r <;> rfl

@[simp] theorem accessReg_cyclePart (r : Reg) (a : Access) (s : State) : (accessReg r a s).cyclePart = s.cyclePart := by
  cases a with
  | sized dir width operands => rfl
  | peek => exact peekReg_cyclePart r _
  | poke v => exact pokeReg_cyclePart r v _

/-! ### Handlers and the pass (40_event_scheduler.md R146, R148) -/

@[simp] theorem hsync_cyclePart (s : State) : (hsync s).cyclePart = s.cyclePart := by
  have hnotices : (lineEndNotices s).cyclePart = s.cyclePart := by
    unfold lineEndNotices
    repeat' split
    all_goals rfl
  exact (andThen_cyclePart (rebuild_cyclePart _) (scheduleOwn_cyclePart .raster Config.cols 0)).trans hnotices

theorem runCollabAct_cyclePart (act : CollabAct) (s : State) : (runCollabAct act s).cyclePart = s.cyclePart := by
  cases act with
  | schedule x offset kind payload => exact scheduleNext_cyclePart ..
  | cancel x => rfl
  | access r a => exact accessReg_cyclePart r a s
  | pixel answers => rfl
  | write a v => rfl

@[simp] theorem collabHandler_cyclePart (s : State) : (collabHandler s).cyclePart = s.cyclePart := by
  unfold collabHandler
  split
  · rfl
  · exact runScript_ind (P := fun t => t.cyclePart = s.cyclePart)
      (fun act t ht => (runCollabAct_cyclePart act t).trans ht) _ _ rfl

theorem handler_cyclePart (x : SlotId) (e : Entry) (s : State) : (handler x e s).cyclePart = s.cyclePart := by
  unfold handler
  split
  · rfl
  · cases x <;> simp

theorem dispatchSlot_cyclePart (x : SlotId) (s : State) : (dispatchSlot x s).cyclePart = s.cyclePart := by
  unfold dispatchSlot
  split
  · rfl
  · exact handler_cyclePart ..

@[simp] theorem pass_cyclePart (s : State) : (pass s).cyclePart = s.cyclePart :=
  passSlots_ind (P := fun t => t.cyclePart = s.cyclePart)
    (fun x t ht => (dispatchSlot_cyclePart x t).trans ht) s.cfg.slots s rfl

@[simp] theorem pass_clock (s : State) : (pass s).clock = s.clock := clock_of_cyclePart (pass_cyclePart s)

end Sys2Proof.Machine

/-! Event Scheduler (40_event_scheduler.md): SCHEDULE, CANCEL and the recursion of ADVANCE_TO. -/

namespace Sys2Proof.Machine

/-! ### The slots -/

theorem slots_get_set (t : Slots) (x y : SlotId) (e : Option Entry) :
    (t.set x e).get y = if y = x then e else t.get y := by
  cases x <;> cases y <;> rfl

theorem slotKind_code_lt (x : SlotId) : (slotKind x).code < 7 := by cases x <;> decide

/-! ### SCHEDULE and CANCEL with no fault set -/

theorem exec_schedule_run {s : State} (x : SlotId) (offset : Int) (kind : Nat) (payload : Payload) (h : s.fault = none) :
    exec (.schedule x offset kind payload) s = .next (scheduleNext x offset kind payload s) :=
  congrArg _ (unlessHalted_run h)

theorem exec_cancel_run {s : State} (x : SlotId) (h : s.fault = none) : exec (.cancel x) s = .next (cancelSlot x s) :=
  congrArg _ (unlessHalted_run h)

/-- The statements' `earliest` is the model's. -/
theorem claims_earliest_eq (s : State) (x : SlotId) : Claims.earliest s x = s.earliest x := rfl

/-- Settles O11: the three cases of a scheduler call exclude one another, so each hypothesis selects its own. -/
theorem scheduleInstallsOrFaults : Obligations.ScheduleInstallsOrFaults := by
  intro s x offset kind payload hfault
  have hcode := slotKind_code_lt x
  rw [exec_schedule_run x offset kind payload hfault, claims_earliest_eq]
  rcases scheduleNext_cases x offset kind payload s with ⟨hkind, h⟩ | ⟨hkind, htrigger, h⟩ | ⟨hkind, htrigger, h⟩ <;> rw [h]
  · rw [raiseFatal_eq _ hfault]
    exact ⟨fun _ => rfl, fun _ => by omega, fun _ => by omega⟩
  · rw [raiseFatal_eq _ hfault]
    exact ⟨fun _ => by omega, fun _ _ => rfl, fun _ _ => by omega⟩
  · exact ⟨fun _ => by omega, fun _ _ => by omega, fun _ _ => rfl⟩

/-- Settles O12, by what a slot holds after a write of any slot. -/
theorem cancelEmptiesItsSlot : Obligations.CancelEmptiesItsSlot := by
  intro s x hfault
  refine ⟨exec_cancel_run x hfault, ?_, fun y hy => ?_⟩
  · rw [slots_get_set, if_pos rfl]
  · rw [slots_get_set, if_neg hy]

/-! ### ADVANCE_TO (R147) -/

@[simp] theorem tick_clock (s : State) : (tick s).clock = s.clock + 1 := by
  unfold tick
  repeat' split
  all_goals rfl

@[simp] theorem tick_fault (s : State) : (tick s).fault = s.fault := by
  unfold tick
  repeat' split
  all_goals rfl

theorem exec_advanceTo_run {s : State} (target : Nat) (h : s.fault = none) :
    exec (.advanceTo target) s = .next (advanceTo target s) := congrArg _ (unlessHalted_run h)

theorem advanceTo_of_le {s : State} {target : Nat} (h : target ≤ s.clock) : advanceTo target s = s := by
  rw [advanceTo, Nat.sub_eq_zero_of_le h, runCycles]

/-- Before its target ADVANCE_TO runs one pass and, unless that faulted, goes on from the tick after it: the pass leaves the
clock, so one cycle fewer remains. -/
theorem advanceTo_of_lt {s : State} {target : Nat} (h : s.clock < target) :
    advanceTo target s = andThen pass (fun t => advanceTo target (tick t)) s := by
  have hcycles : target - s.clock = target - (tick (pass s)).clock + 1 := by
    rw [tick_clock, pass_clock]; omega
  rw [advanceTo, hcycles]
  rfl

/-- Settles O13, by the recursion of `advanceTo_of_lt`: both sides branch on whether the pass faulted. -/
theorem advanceToRunsCycleByCycle : Obligations.AdvanceToRunsCycleByCycle := by
  intro s target hfault
  rw [exec_advanceTo_run target hfault]
  refine ⟨fun hle => by rw [advanceTo_of_le hle], fun hlt => ⟨_, exec_advanceTo_next hfault, ?_⟩⟩
  rw [advanceTo_of_lt hlt]
  constructor
  · intro hpass
    rw [andThen_stop hpass, andThen_stop hpass]
    exact ⟨rfl, pass_clock s, rfl⟩
  · intro hpass
    rw [andThen_run hpass, andThen_run hpass, exec_advanceTo_run target (by rw [tick_fault, hpass])]
    exact ⟨rfl, by rw [tick_clock, pass_clock], rfl⟩

end Sys2Proof.Machine

/-! Beam Tracker (41_beam_tracker.md): TICK and the HSYNC handler. -/

namespace Sys2Proof.Machine

/-! ### TICK (R171) -/

theorem tick_within_line {s : State} (hcolumn : s.column + 1 ≠ 227) :
    tick s = { s with clock := s.clock + 1, column := s.column + 1 } := by
  rw [tick, if_neg hcolumn]

theorem tick_line_end {s : State} (hcolumn : s.column + 1 = 227) (hline : s.line + 1 ≠ 313) :
    tick s = { s with clock := s.clock + 1, column := 0, line := s.line + 1 } := by
  rw [tick, if_pos hcolumn, if_neg hline]

theorem tick_frame_end {s : State} (hcolumn : s.column + 1 = 227) (hline : s.line + 1 = 313) :
    tick s = { s with clock := s.clock + 1, column := 0, line := 0, frame := s.frame + 1 } := by
  rw [tick, if_pos hcolumn, if_pos hline]

/-- Settles O18, by the three cases of `tick`. -/
theorem tickMovesTheBeam : Obligations.TickMovesTheBeam := by
  intro s hfault
  rw [exec_tick_run hfault]
  exact ⟨fun hcolumn => congrArg _ (tick_within_line hcolumn),
    fun hcolumn hline => congrArg _ (tick_line_end hcolumn hline),
    fun hcolumn hline => congrArg _ (tick_frame_end hcolumn hline)⟩

/-! ### HSYNC (R176) -/

/-- The notifications of a line end are records and nothing else: LINE unless the clock is 0, and FRAME after it at line 0. -/
theorem lineEndNotices_eq (s : State) : lineEndNotices s = { s with history := s.history ++
    (if s.clock = 0 then [] else
      if s.line = 0 then [⟨s.clock, .notify .line⟩, ⟨s.clock, .notify .frame⟩]
      else [⟨s.clock, .notify .line⟩]) } := by
  unfold lineEndNotices
  by_cases hclock : s.clock = 0
  · simp [hclock]
  · by_cases hline : s.line = 0
    · simp [hclock, hline, Nat.pos_of_ne_zero, State.log]
    · simp [hclock, hline, Nat.pos_of_ne_zero, State.log]

/-- A rebuild with a plane count in range raises no fault. -/
theorem rebuild_fault_of_le {s : State} (h : s.pixel.bpu ≤ 6) : (rebuild s).fault = s.fault := by
  rcases rebuild_cases s with ⟨hlt, _⟩ | ⟨_, e, heq, _⟩
  · exact absurd hlt (Nat.not_lt.mpr h)
  · rw [heq]; rfl

/-- A rebuild with a plane count out of range leaves the core halted (R191). -/
theorem rebuild_halts_of_lt {s : State} (h : 6 < s.pixel.bpu) : (rebuild s).fault ≠ none := by
  rcases rebuild_cases s with ⟨_, heq⟩ | ⟨hle, _⟩
  · rw [heq]; exact raiseFatal_halts _ s
  · exact absurd hle (Nat.not_le.mpr h)

@[simp] theorem lineEndNotices_fault (s : State) : (lineEndNotices s).fault = s.fault := by rw [lineEndNotices_eq]

@[simp] theorem lineEndNotices_clock (s : State) : (lineEndNotices s).clock = s.clock := by rw [lineEndNotices_eq]

@[simp] theorem lineEndNotices_pixel (s : State) : (lineEndNotices s).pixel = s.pixel := by rw [lineEndNotices_eq]

/-- After a rebuild that raised no fault the next HSYNC is installed: an offset of 227 is admissible in every state. -/
theorem hsync_of_bpu_le {s : State} (hfault : s.fault = none) (hbpu : s.pixel.bpu ≤ 6) :
    hsync s = (rebuild (lineEndNotices s)).setSlot .raster (some ⟨s.clock + 227, .hsync, 0⟩) := by
  have hrebuilt : (rebuild (lineEndNotices s)).fault = none := by
    rw [rebuild_fault_of_le (by rwa [lineEndNotices_pixel]), lineEndNotices_fault, hfault]
  rw [hsync, andThen_run hrebuilt, scheduleOwn_eq .raster 0 _ (by decide), clock_of_cyclePart (rebuild_cyclePart _),
    lineEndNotices_clock]
  rfl

/-- The rebuild's fault ends the handler. -/
theorem hsync_of_lt_bpu {s : State} (hbpu : 6 < s.pixel.bpu) : hsync s = rebuild (lineEndNotices s) :=
  andThen_stop (rebuild_halts_of_lt (by rwa [lineEndNotices_pixel]))

/-- Settles O21: the rebuild after the notifications raises a fault exactly on a plane count above 6, and the handler's own
scheduler call follows otherwise. -/
theorem hsyncEndsTheLine : Obligations.HsyncEndsTheLine := by
  intro s hfault
  rw [← lineEndNotices_eq, exec_hsyncFire_run hfault]
  have hnoticed : (lineEndNotices s).fault = none := by rw [lineEndNotices_fault, hfault]
  exact ⟨rebuild (lineEndNotices s), exec_rebuild_run hnoticed,
    fun hle => congrArg _ (hsync_of_bpu_le hfault hle), fun hlt => congrArg _ (hsync_of_lt_bpu hlt)⟩

end Sys2Proof.Machine

/-! The DMA Slot Allocator (42_slot_allocator.md): the state a REBUILD ends in, its companion tables (R199), its DMA slot
(R200) and the owner of each column (R193 to R197). -/

namespace Sys2Proof.Machine

/-! ### The state after a REBUILD -/

/-- With a plane count in range a rebuild installs the table of the present inputs, and the DMA slot holds the target column
at that column's cycle. -/
theorem rebuild_of_bpu_le {s : State} (h : s.pixel.bpu ≤ 6) :
    rebuild s = (s.setTable s.currentTable).setSlot .dma ((s.setTable s.currentTable).dmaTarget.map fun c =>
      ⟨s.clock + (c - s.column), .dmaFetch, BitVec.ofNat 64 c⟩) := by
  rcases rebuild_cases s with ⟨hlt, _⟩ | ⟨_, e, heq, ⟨rfl, htarget⟩ | ⟨c, htarget, _, _, rfl⟩⟩
  · exact absurd hlt (Nat.not_lt.mpr h)
  · rw [heq, htarget, Option.map_none]
  · rw [heq, htarget, Option.map_some]

/-- The same for the operation REBUILD. -/
theorem exec_rebuild_of_bpu_le {s t : State} (hfault : s.fault = none) (hbpu : s.pixel.bpu ≤ 6)
    (hexec : exec .rebuild s = .next t) :
    t = (s.setTable s.currentTable).setSlot .dma ((s.setTable s.currentTable).dmaTarget.map fun c =>
      ⟨s.clock + (c - s.column), .dmaFetch, BitVec.ofNat 64 c⟩) := by
  rw [exec_rebuild_run hfault, rebuild_of_bpu_le hbpu] at hexec
  exact (Host.Outcome.next.inj hexec).symm

theorem exec_rebuild_owner {s t : State} (hfault : s.fault = none) (hbpu : s.pixel.bpu ≤ 6)
    (hexec : exec .rebuild s = .next t) : t.owner = s.currentTable := by
  rw [exec_rebuild_of_bpu_le hfault hbpu hexec]; rfl

/-- After a REBUILD the companion tables are the scans of the owner table. -/
theorem exec_rebuild_companions {s t : State} (hfault : s.fault = none) (hbpu : s.pixel.bpu ≤ 6)
    (hexec : exec .rebuild s = .next t) :
    t.next = (scanNext 0 t.owner).1 ∧ t.first = (scanNext 0 t.owner).2 ∧ t.lastFetch = lastFetchOf t.owner := by
  rw [exec_rebuild_of_bpu_le hfault hbpu hexec]; exact ⟨rfl, rfl, rfl⟩

theorem currentTable_length (s : State) : s.currentTable.length = 227 := ownerTable_length ..

/-! ### The companion tables (R199) -/

/-- What the scan from column `c` finds is the least populated column from `c` on. -/
theorem scanNext_drop_some {s : State} {c d : Nat} (h : (scanNext c (s.owner.drop c)).2 = some d) :
    c ≤ d ∧ Claims.Populated s d ∧ ∀ e, c ≤ e → e < d → ¬ Claims.Populated s e := by
  have hspec := scanNext_first c (s.owner.drop c)
  rw [h] at hspec
  obtain ⟨hle, hpopulated, hbefore⟩ := hspec
  rw [List.getElem?_drop, Nat.add_sub_cancel' hle] at hpopulated
  refine ⟨hle, hpopulated, fun e hce hed ⟨o, ho, hne⟩ => hne ?_⟩
  have hnone := hbefore (e - c) (by omega)
  rw [List.getElem?_drop, Nat.add_sub_cancel' hce, ho] at hnone
  exact Option.some.inj hnone

/-- When the scan from column `c` finds nothing, no column from `c` on is populated. -/
theorem scanNext_drop_none {s : State} {c : Nat} (h : (scanNext c (s.owner.drop c)).2 = none) (e : Nat) (hce : c ≤ e) :
    ¬ Claims.Populated s e := by
  rintro ⟨o, ho, hne⟩
  have hspec := scanNext_first c (s.owner.drop c)
  rw [h] at hspec
  exact hne (hspec (e - c) o (by rwa [List.getElem?_drop, Nat.add_sub_cancel' hce]))

theorem scanNext_drop_eq_some_iff (s : State) (c d : Nat) :
    (scanNext c (s.owner.drop c)).2 = some d ↔
      c ≤ d ∧ Claims.Populated s d ∧ ∀ e, c ≤ e → e < d → ¬ Claims.Populated s e := by
  refine ⟨scanNext_drop_some, fun ⟨hle, hpopulated, hbefore⟩ => ?_⟩
  cases hscan : (scanNext c (s.owner.drop c)).2 with
  | none => exact absurd hpopulated (scanNext_drop_none hscan d hle)
  | some d' =>
    obtain ⟨hle', hpopulated', hbefore'⟩ := scanNext_drop_some hscan
    rcases lt_trichotomy d d' with hlt | rfl | hgt
    · exact absurd hpopulated (hbefore' d hle hlt)
    · rfl
    · exact absurd hpopulated' (hbefore d' hle' hgt)

theorem scanNext_drop_eq_none_iff (s : State) (c : Nat) :
    (scanNext c (s.owner.drop c)).2 = none ↔ ∀ e, c ≤ e → ¬ Claims.Populated s e := by
  refine ⟨scanNext_drop_none, fun hempty => Option.eq_none_iff_forall_not_mem.mpr fun d hd => ?_⟩
  obtain ⟨hle, hpopulated, _⟩ := scanNext_drop_some hd
  exact hempty d hle hpopulated

/-- An entry of the `next` table is what the scan finds from the column after it. -/
theorem scanNext_zero_getElem? {t : List Owner} {c : Nat} (h : c < t.length) :
    (scanNext 0 t).1[c]? = some (scanNext (c + 1) (t.drop (c + 1))).2 := by
  rw [scanNext_next 0 t c h, Nat.zero_add]

theorem scanLast_zero_eq_some {p : Fin 6} {t : List Owner} {d : Nat} (h : scanLast p 0 t = some d) :
    t[d]? = some (.bpl p) ∧ ∀ e, d < e → t[e]? ≠ some (.bpl p) := by
  have hspec := scanLast_spec p 0 t
  rw [h] at hspec
  obtain ⟨_, hat, hafter⟩ := hspec
  exact ⟨hat, fun e hlt => hafter e (by omega)⟩

theorem scanLast_zero_eq_none {p : Fin 6} {t : List Owner} (h : scanLast p 0 t = none) (e : Nat) :
    t[e]? ≠ some (.bpl p) := by
  have hspec := scanLast_spec p 0 t
  rw [h] at hspec
  exact hspec e

theorem scanLast_zero_eq_some_iff (p : Fin 6) (t : List Owner) (d : Nat) :
    scanLast p 0 t = some d ↔ t[d]? = some (.bpl p) ∧ ∀ e, d < e → t[e]? ≠ some (.bpl p) := by
  refine ⟨scanLast_zero_eq_some, fun ⟨hat, hafter⟩ => ?_⟩
  cases hscan : scanLast p 0 t with
  | none => exact absurd hat (scanLast_zero_eq_none hscan d)
  | some d' =>
    obtain ⟨hat', hafter'⟩ := scanLast_zero_eq_some hscan
    rcases lt_trichotomy d d' with hlt | rfl | hgt
    · exact absurd hat' (hafter d' hlt)
    · rfl
    · exact absurd hat (hafter' d hgt)

theorem scanLast_zero_eq_none_iff (p : Fin 6) (t : List Owner) :
    scanLast p 0 t = none ↔ ∀ e : Nat, t[e]? ≠ some (.bpl p) := by
  refine ⟨scanLast_zero_eq_none, fun hnever => Option.eq_none_iff_forall_not_mem.mpr fun d hd => ?_⟩
  exact hnever d (scanLast_zero_eq_some hd).1

theorem lastFetchOf_getElem (t : List Owner) (p : Fin 6) : (lastFetchOf t)[p] = scanLast p 0 t := by
  fin_cases p <;> rfl

/-- Settles O23: the companion tables are scans of the owner table, and each scan finds the extreme column it is defined to
look for. -/
theorem rebuildBuildsTheCompanions : Obligations.RebuildBuildsTheCompanions := by
  intro s t hfault hbpu hexec
  obtain ⟨hnext, hfirst, hlast⟩ := exec_rebuild_companions hfault hbpu hexec
  have hlength : t.owner.length = 227 := by rw [exec_rebuild_owner hfault hbpu hexec, currentTable_length]
  refine ⟨fun c hc => ?_, fun d => ?_, ?_, fun p d => ?_, fun p => ?_⟩
  · rw [hnext, scanNext_zero_getElem? (hlength ▸ hc)]
    simp only [Option.some_inj]
    exact ⟨scanNext_drop_eq_some_iff t (c + 1), scanNext_drop_eq_none_iff t (c + 1)⟩
  · rw [hfirst]
    simpa using scanNext_drop_eq_some_iff t 0 d
  · rw [hfirst]
    simpa using scanNext_drop_eq_none_iff t 0
  · rw [hlast, lastFetchOf_getElem, scanLast_zero_eq_some_iff]
  · rw [hlast, lastFetchOf_getElem, scanLast_zero_eq_none_iff]

/-! ### The DMA slot (R200) -/

/-- A column is populated exactly when its owner is not NONE; outside the table it has none. -/
theorem populated_iff_ownerAt_ne (s : State) (c : Nat) : Claims.Populated s c ↔ s.ownerAt c ≠ .none := by
  unfold Claims.Populated State.ownerAt
  cases s.owner[c]? <;> simp

/-- The DMA slot goes to the present column when that is populated and DMA can still fire in this cycle. -/
theorem dmaTarget_present {s : State} (h : s.earliest .dma = s.clock ∧ Claims.Populated s s.column) :
    s.dmaTarget = some s.column := by
  rw [State.dmaTarget, if_pos h.1, if_pos ((populated_iff_ownerAt_ne s s.column).mp h.2)]

/-- Else it goes to the next populated column. -/
theorem dmaTarget_later {s : State} (h : ¬ (s.earliest .dma = s.clock ∧ Claims.Populated s s.column)) :
    s.dmaTarget = s.nextAt s.column := by
  rw [populated_iff_ownerAt_ne] at h
  unfold State.dmaTarget
  split
  case isTrue hearliest => exact if_neg fun hne => h ⟨hearliest, hne⟩
  case isFalse => rfl

theorem nextAt_of_getElem? {s : State} {c : Nat} {x : Option Nat} (h : s.next[c]? = some x) : s.nextAt c = x := by
  rw [State.nextAt, h, Option.getD_some]

/-- After a REBUILD the DMA slot holds the target column at that column's cycle; the beam and the earliest cycle stay. -/
theorem exec_rebuild_dma {s t : State} (hfault : s.fault = none) (hbpu : s.pixel.bpu ≤ 6)
    (hexec : exec .rebuild s = .next t) :
    t.column = s.column ∧ (t.earliest .dma = t.clock ↔ Claims.earliest s .dma = s.clock) ∧
      t.slots.dma = t.dmaTarget.map fun c => ⟨s.clock + (c - s.column), .dmaFetch, BitVec.ofNat 64 c⟩ := by
  rw [exec_rebuild_of_bpu_le hfault hbpu hexec]; exact ⟨rfl, Iff.rfl, rfl⟩

/-- Settles O24: the DMA slot holds the target column's cycle, and the target is the present column or the next one. -/
theorem rebuildReschedulesDma : Obligations.RebuildReschedulesDma := by
  intro s t hfault hbpu _ hexec
  obtain ⟨hcolumn, hearliest, hdma⟩ := exec_rebuild_dma hfault hbpu hexec
  rw [hdma, ← hearliest, ← hcolumn]
  refine ⟨fun hpresent => ?_, fun hlater => ⟨fun c hnext => ?_, fun hnext => ?_⟩⟩
  · rw [dmaTarget_present hpresent, Option.map_some, Nat.sub_self, Nat.add_zero]
  · rw [dmaTarget_later hlater, nextAt_of_getElem? hnext, Option.map_some]
  · rw [dmaTarget_later hlater, nextAt_of_getElem? hnext, Option.map_none]

end Sys2Proof.Machine

/-! The owner of each column after a REBUILD (42_slot_allocator.md R193 to R197). -/

namespace Sys2Proof.Machine

/-! ### A fold of placements at one column -/

/-- At one column a fold of placements either hits nowhere and keeps the owner, or a placement that hits there wrote its
own. -/
theorem foldl_place_cases {α : Type} {f : List Owner → α → List Owner} {hit : α → Bool} {o : α → Owner} {c : Nat}
    (hplace : ∀ t a, (f t a)[c]? = t[c]?.map fun x => if hit a then o a else x) (l : List α) (t : List Owner) :
    ((∀ a ∈ l, hit a = false) ∧ (l.foldl f t)[c]? = t[c]?) ∨
      ∃ a ∈ l, hit a = true ∧ (l.foldl f t)[c]? = t[c]?.map fun _ => o a := by
  induction l generalizing t with
  | nil => simp
  | cons a l ih =>
    rw [List.foldl_cons]
    rcases ih (f t a) with ⟨hmiss, heq⟩ | ⟨b, hb, hhit, heq⟩
    · rw [hplace] at heq
      cases ha : hit a
      case false =>
        refine .inl ⟨List.forall_mem_cons.mpr ⟨ha, hmiss⟩, ?_⟩
        simpa [ha] using heq
      case true => exact .inr ⟨a, List.mem_cons_self, ha, by simpa [ha] using heq⟩
    · rw [hplace, Option.map_map] at heq
      exact .inr ⟨b, List.mem_cons_of_mem a hb, hhit, heq⟩

/-! ### The disk, audio and sprite columns -/

/-- The table before the bitplanes are placed (R190). -/
def fixedTable (cfg : Config) (dmacon : Word) : List Owner :=
  placeSprites cfg dmacon (audioChannels.foldl (placeAudio cfg dmacon)
    (placeDisk cfg dmacon (List.replicate Config.cols .none)))

theorem ownerTable_of_dmaen {cfg : Config} {d : Word} (h : d.getLsbD 9 = true) (a b : Word) (hires : Bool) (bpu : Nat) :
    ownerTable cfg d a b hires bpu = placeBitplanes cfg d a b hires bpu (fixedTable cfg d) := if_pos h

/-- Without DMAEN every column is NONE (R192). -/
theorem ownerTable_of_not_dmaen {cfg : Config} {d : Word} (h : d.getLsbD 9 = false) (a b : Word) (hires : Bool) (bpu : Nat) :
    ownerTable cfg d a b hires bpu = List.replicate Config.cols .none := by
  rw [ownerTable, h]; rfl

/-- A column of the empty table is NONE. -/
theorem replicate_none_getElem? {n c : Nat} {o : Owner} (h : (List.replicate n Owner.none)[c]? = some o) : o = .none :=
  List.eq_of_mem_replicate (List.mem_of_getElem? h)

theorem placeDisk_cases (cfg : Config) (d : Word) (t : List Owner) (c : Nat) :
    (¬ (d.getLsbD 4 = true ∧ c ∈ cfg.fixedSlots.disk) ∧ (placeDisk cfg d t)[c]? = t[c]?) ∨
      ((d.getLsbD 4 = true ∧ c ∈ cfg.fixedSlots.disk) ∧ (placeDisk cfg d t)[c]? = t[c]?.map fun _ => .disk) := by
  unfold placeDisk
  cases d.getLsbD 4
  case false => exact .inl ⟨by simp, rfl⟩
  case true =>
    rw [if_pos rfl, paint_getElem?]
    by_cases hc : c ∈ cfg.fixedSlots.disk
    · exact .inr ⟨⟨rfl, hc⟩, by simp [hc]⟩
    · exact .inl ⟨by simp [hc], by simp [hc]⟩

theorem placeAudio_getElem? (cfg : Config) (d : Word) (t : List Owner) (n : Fin 4) (c : Nat) :
    (placeAudio cfg d t n)[c]? =
      t[c]?.map fun x => if d.getLsbD n.val && c == cfg.fixedSlots.aud[n] then .aud n else x := by
  unfold placeAudio
  cases d.getLsbD n.val
  case false => simp
  case true => simp [paint_getElem?]

theorem foldl_placeAudio_cases (cfg : Config) (d : Word) (t : List Owner) (c : Nat) :
    ((∀ n : Fin 4, ¬ (d.getLsbD n.val = true ∧ c = cfg.fixedSlots.aud[n])) ∧
        (audioChannels.foldl (placeAudio cfg d) t)[c]? = t[c]?) ∨
      ∃ n : Fin 4, (d.getLsbD n.val = true ∧ c = cfg.fixedSlots.aud[n]) ∧
        (audioChannels.foldl (placeAudio cfg d) t)[c]? = t[c]?.map fun _ => .aud n := by
  have hall : ∀ n : Fin 4, n ∈ audioChannels := by decide
  simpa [hall] using foldl_place_cases (fun t n => placeAudio_getElem? cfg d t n c) audioChannels t

theorem placeSprite_getElem? (cfg : Config) (t : List Owner) (x : Fin 8 × Fin 2) (c : Nat) :
    (placeSprite cfg t x)[c]? =
      t[c]?.map fun y => if c == (cfg.fixedSlots.spr[x.1])[x.2] then .spr x.1 x.2 else y := paint_getElem? _ _ t c

theorem placeSprites_cases (cfg : Config) (d : Word) (t : List Owner) (c : Nat) :
    ((∀ (n : Fin 8) (k : Fin 2), ¬ (d.getLsbD 5 = true ∧ c = cfg.fixedSlots.spr[n][k])) ∧
        (placeSprites cfg d t)[c]? = t[c]?) ∨
      ∃ (n : Fin 8) (k : Fin 2), (d.getLsbD 5 = true ∧ c = cfg.fixedSlots.spr[n][k]) ∧
        (placeSprites cfg d t)[c]? = t[c]?.map fun _ => .spr n k := by
  have hall : ∀ (n : Fin 8) (k : Fin 2), (n, k) ∈ spriteSlots := by decide
  unfold placeSprites
  cases d.getLsbD 5
  case false => exact .inl ⟨by simp, rfl⟩
  case true =>
    rw [if_pos rfl]
    rcases foldl_place_cases (fun t x => placeSprite_getElem? cfg t x c) spriteSlots t with ⟨hmiss, heq⟩ | ⟨x, _, hhit, heq⟩
    · exact .inl ⟨fun n k h => beq_eq_false_iff_ne.mp (hmiss (n, k) (hall n k)) h.2, heq⟩
    · exact .inr ⟨x.1, x.2, ⟨rfl, beq_iff_eq.mp hhit⟩, heq⟩

theorem fixedTable_length (cfg : Config) (d : Word) : (fixedTable cfg d).length = 227 := by
  rw [fixedTable, placeSprites_length, foldl_length (placeAudio_length cfg d), placeDisk_length, List.length_replicate]

theorem lt_of_fixedTable_getElem? {cfg : Config} {d : Word} {c : Nat} {o : Owner} (h : (fixedTable cfg d)[c]? = some o) :
    c < 227 := fixedTable_length cfg d ▸ (List.getElem?_eq_some_iff.mp h).1

/-- Each column of the table before the bitplanes is a sprite's, else an audio channel's, else the disk's, else NONE. -/
theorem fixedTable_cases (cfg : Config) (d : Word) {c : Nat} (hc : c < 227) :
    (∃ (n : Fin 8) (k : Fin 2), (d.getLsbD 5 = true ∧ c = cfg.fixedSlots.spr[n][k]) ∧
        (fixedTable cfg d)[c]? = some (.spr n k)) ∨
      (∃ n : Fin 4, (d.getLsbD n.val = true ∧ c = cfg.fixedSlots.aud[n]) ∧ (fixedTable cfg d)[c]? = some (.aud n)) ∨
      ((d.getLsbD 4 = true ∧ c ∈ cfg.fixedSlots.disk) ∧ (fixedTable cfg d)[c]? = some .disk) ∨
      ((∀ (n : Fin 8) (k : Fin 2), ¬ (d.getLsbD 5 = true ∧ c = cfg.fixedSlots.spr[n][k])) ∧
        (∀ n : Fin 4, ¬ (d.getLsbD n.val = true ∧ c = cfg.fixedSlots.aud[n])) ∧
        ¬ (d.getLsbD 4 = true ∧ c ∈ cfg.fixedSlots.disk) ∧ (fixedTable cfg d)[c]? = some .none) := by
  have hset {t : List Owner} (o : Owner) (ht : t.length = 227) : (t[c]?.map fun _ => o) = some o := by
    rw [List.getElem?_eq_getElem (ht ▸ hc), Option.map_some]
  unfold fixedTable
  rcases placeSprites_cases cfg d _ c with ⟨hspr, heq⟩ | ⟨n, k, hhit, heq⟩ <;> rw [heq]
  case inr => exact .inl ⟨n, k, hhit, hset _ (by simp [foldl_length (placeAudio_length cfg d), placeDisk_length])⟩
  rcases foldl_placeAudio_cases cfg d _ c with ⟨haud, heq⟩ | ⟨n, hhit, heq⟩ <;> rw [heq]
  case inr => exact .inr (.inl ⟨n, hhit, hset _ (by simp [placeDisk_length])⟩)
  rcases placeDisk_cases cfg d _ c with ⟨hdisk, heq⟩ | ⟨hhit, heq⟩ <;> rw [heq]
  case inr => exact .inr (.inr (.inl ⟨hhit, hset _ (by simp)⟩))
  exact .inr (.inr (.inr ⟨hspr, haud, hdisk, by simp [hc]⟩))

/-- No disk, audio or sprite placement gives a column to a bitplane. -/
theorem fixedTable_ne_bpl (cfg : Config) (d : Word) (c : Nat) (p : Fin 6) : (fixedTable cfg d)[c]? ≠ some (.bpl p) := by
  intro hbpl
  rcases fixedTable_cases cfg d (lt_of_fixedTable_getElem? hbpl) with
    ⟨n, k, _, heq⟩ | ⟨n, _, heq⟩ | ⟨_, heq⟩ | ⟨_, _, _, heq⟩ <;>
    exact Owner.noConfusion (Option.some.inj (heq.symm.trans hbpl))

/-! ### The bitplane columns -/

theorem planeHit_iff (start stop stride offset c : Nat) :
    planeHit start stop stride offset c = true ↔ start ≤ c ∧ c < stop ∧ (c - start) % stride = offset := by
  simp [planeHit, and_assoc]

/-- Plane `p` is within the count and column `c` is one of its columns of the fetch window (R194 to R197). -/
def planeAt (cfg : Config) (a b : Word) (hires : Bool) (bpu : Nat) (c : Nat) (p : Fin 6) : Bool :=
  decide (p.val < planeCount cfg hires bpu) &&
    planeHit (windowColumn a) (windowColumn b) (strideOf hires) (planeOffset cfg hires p) c

theorem planeAt_iff (cfg : Config) (a b : Word) (hires : Bool) (bpu : Nat) (c : Nat) (p : Fin 6) :
    planeAt cfg a b hires bpu c p = true ↔ p.val < planeCount cfg hires bpu ∧ windowColumn a ≤ c ∧ c < windowColumn b ∧
      (c - windowColumn a) % strideOf hires = planeOffset cfg hires p := by
  rw [planeAt, Bool.and_eq_true, decide_eq_true_iff, planeHit_iff]

theorem placePlane_getElem? (cfg : Config) (a b : Word) (hires : Bool) (bpu : Nat) (t : List Owner) (p : Fin 6) (c : Nat) :
    (placePlane cfg a b hires bpu t p)[c]? =
      t[c]?.map fun x => if planeAt cfg a b hires bpu c p then .bpl p else x := by
  unfold placePlane planeAt
  split
  case isTrue hp => simp only [paint_getElem?, hp, decide_true, Bool.true_and]
  case isFalse hp => simp [hp]

/-- At one column the bitplanes either keep the owner, or a plane that has the column becomes it. -/
theorem placeBitplanes_cases (cfg : Config) (d a b : Word) (hires : Bool) (bpu : Nat) (t : List Owner) (c : Nat) :
    ((∀ p, ¬ (d.getLsbD 8 = true ∧ planeAt cfg a b hires bpu c p = true)) ∧
        (placeBitplanes cfg d a b hires bpu t)[c]? = t[c]?) ∨
      ∃ p, (d.getLsbD 8 = true ∧ planeAt cfg a b hires bpu c p = true) ∧
        (placeBitplanes cfg d a b hires bpu t)[c]? = t[c]?.map fun _ => .bpl p := by
  have hall : ∀ p : Fin 6, p ∈ planesDescending := by decide
  unfold placeBitplanes
  split
  case isTrue hplaced =>
    simpa [hall, hplaced.1] using
      foldl_place_cases (fun t p => placePlane_getElem? cfg a b hires bpu t p c) planesDescending t
  case isFalse hnone =>
    refine .inl ⟨fun p ⟨hbit, hat⟩ => hnone ⟨hbit, ?_⟩, rfl⟩
    have hp := ((planeAt_iff ..).mp hat).1
    exact (Nat.zero_le p).trans_lt (hp.trans_le (min_le_left ..))

/-- A column that no bitplane owns keeps its disk, audio or sprite owner. -/
theorem placeBitplanes_of_ne_bpl {cfg : Config} {d a b : Word} {hires : Bool} {bpu : Nat} {t : List Owner} {c : Nat}
    (h : ∀ p, (placeBitplanes cfg d a b hires bpu t)[c]? ≠ some (.bpl p)) :
    (placeBitplanes cfg d a b hires bpu t)[c]? = t[c]? := by
  rcases placeBitplanes_cases cfg d a b hires bpu t c with ⟨_, hkeep⟩ | ⟨p, _, hset⟩
  · exact hkeep
  · cases hc : t[c]? with
    | none => rw [hset, hc, Option.map_none]
    | some o => exact absurd (by rw [hset, hc, Option.map_some]) (h p)

/-- The columns of a window are columns of the table. -/
theorem windowColumn_lt (v : Word) : windowColumn v < 227 := (min_le_right _ _).trans_lt (by decide)

theorem planeCount_hires_le (cfg : Config) (bpu : Nat) : planeCount cfg true bpu ≤ 4 :=
  (min_le_right _ _).trans (Nat.le_of_lt_succ cfg.hiresMaxPlanes.isLt)

theorem planeOffset_hires {cfg : Config} (h : cfg.hiresOffset = #v[3, 1, 2, 0]) {p : Fin 6} (hp : p.val < 4) :
    [3, 1, 2, 0][p.val]? = some (planeOffset cfg true p) := by
  rw [planeOffset, if_pos rfl, dif_pos hp, h]
  revert p
  decide

theorem planeOffset_lores {cfg : Config} (h : cfg.loresOffset = #v[7, 3, 5, 1, 6, 2]) (p : Fin 6) :
    [7, 3, 5, 1, 6, 2][p.val]? = some (planeOffset cfg false p) := by
  rw [planeOffset, if_neg Bool.false_ne_true, h]
  revert p
  decide

/-- With the default offsets two planes within the count have different offsets. -/
theorem planeOffset_inj {cfg : Config} (hlores : cfg.loresOffset = #v[7, 3, 5, 1, 6, 2])
    (hhires : cfg.hiresOffset = #v[3, 1, 2, 0]) {hires : Bool} {bpu : Nat} {p q : Fin 6}
    (hp : p.val < planeCount cfg hires bpu) (hq : q.val < planeCount cfg hires bpu)
    (h : planeOffset cfg hires p = planeOffset cfg hires q) : p = q := by
  cases hires
  case false =>
    have hlist : [7, 3, 5, 1, 6, 2][p.val]? = [7, 3, 5, 1, 6, 2][q.val]? := by
      rw [planeOffset_lores hlores, planeOffset_lores hlores, h]
    exact Fin.ext ((List.getElem?_inj (l := [7, 3, 5, 1, 6, 2]) p.isLt (by decide)).mp hlist)
  case true =>
    have hp4 := hp.trans_le (planeCount_hires_le cfg bpu)
    have hlist : [3, 1, 2, 0][p.val]? = [3, 1, 2, 0][q.val]? := by
      rw [planeOffset_hires hhires hp4, planeOffset_hires hhires (hq.trans_le (planeCount_hires_le cfg bpu)), h]
    exact Fin.ext ((List.getElem?_inj (l := [3, 1, 2, 0]) hp4 (by decide)).mp hlist)

/-- With the default offsets at most one plane has a column. -/
theorem planeAt_unique {cfg : Config} (hlores : cfg.loresOffset = #v[7, 3, 5, 1, 6, 2])
    (hhires : cfg.hiresOffset = #v[3, 1, 2, 0]) {a b : Word} {hires : Bool} {bpu c : Nat} {p q : Fin 6}
    (hp : planeAt cfg a b hires bpu c p = true) (hq : planeAt cfg a b hires bpu c q = true) : p = q := by
  obtain ⟨hpcount, _, _, hpoffset⟩ := (planeAt_iff ..).mp hp
  obtain ⟨hqcount, _, _, hqoffset⟩ := (planeAt_iff ..).mp hq
  exact planeOffset_inj hlores hhires hpcount hqcount (hpoffset.symm.trans hqoffset)

/-- With the default offsets a plane owns exactly its own columns of the table, when DMAEN and BPLEN are set. -/
theorem ownerTable_eq_bpl_iff {cfg : Config} (hlores : cfg.loresOffset = #v[7, 3, 5, 1, 6, 2])
    (hhires : cfg.hiresOffset = #v[3, 1, 2, 0]) (d a b : Word) (hires : Bool) (bpu c : Nat) (p : Fin 6) :
    (ownerTable cfg d a b hires bpu)[c]? = some (.bpl p) ↔
      d.getLsbD 9 = true ∧ d.getLsbD 8 = true ∧ planeAt cfg a b hires bpu c p = true := by
  cases hdmaen : d.getLsbD 9
  case false =>
    rw [ownerTable_of_not_dmaen hdmaen]
    exact iff_of_false (fun h => Owner.noConfusion (replicate_none_getElem? h)) (fun h => Bool.noConfusion h.1)
  case true =>
    rw [ownerTable_of_dmaen hdmaen]
    rcases placeBitplanes_cases cfg d a b hires bpu (fixedTable cfg d) c with ⟨hmiss, heq⟩ | ⟨q, ⟨hbit, hq⟩, heq⟩
    · rw [heq]
      exact iff_of_false (fixedTable_ne_bpl cfg d c p) fun h => hmiss p h.2
    · have hc : c < (fixedTable cfg d).length := by
        rw [fixedTable_length]
        exact ((planeAt_iff ..).mp hq).2.2.1.trans (windowColumn_lt b)
      rw [heq, List.getElem?_eq_getElem hc, Option.map_some]
      simp only [Option.some_inj, Owner.bpl.injEq, hbit, true_and]
      exact ⟨fun h => h ▸ hq, fun hp => planeAt_unique hlores hhires hq hp⟩

/-- `planeAt` in the words of R194 to R197: the count and the offset by resolution. -/
theorem planeAt_default_iff {cfg : Config} (hlores : cfg.loresOffset = #v[7, 3, 5, 1, 6, 2])
    (hhires : cfg.hiresOffset = #v[3, 1, 2, 0]) {a b : Word} {hires : Bool} {bpu c : Nat} {p : Fin 6} (hbpu : bpu ≤ 6) :
    planeAt cfg a b hires bpu c p = true ↔ windowColumn a ≤ c ∧ c < windowColumn b ∧
      (if hires then
        p.val < min bpu cfg.hiresMaxPlanes.val ∧ some ((c - windowColumn a) % 4) = [3, 1, 2, 0][p.val]?
      else
        p.val < bpu ∧ some ((c - windowColumn a) % 8) = [7, 3, 5, 1, 6, 2][p.val]?) := by
  rw [planeAt_iff]
  cases hires
  case false =>
    have hcount : planeCount cfg false bpu = bpu := min_eq_left hbpu
    have hstride : strideOf false = 8 := rfl
    rw [planeOffset_lores hlores, hcount, hstride, Option.some_inj, if_neg Bool.false_ne_true]
    tauto
  case true =>
    have hcount : planeCount cfg true bpu = min bpu cfg.hiresMaxPlanes.val := rfl
    have hstride : strideOf true = 4 := rfl
    rw [hcount, hstride, if_pos rfl]
    by_cases hp : p.val < min bpu cfg.hiresMaxPlanes.val
    · rw [planeOffset_hires hhires (hp.trans_le (planeCount_hires_le cfg bpu)), Option.some_inj]
      tauto
    · tauto

/-- Settles O25: the bitplanes are placed last and, with the default offsets, on disjoint columns. -/
theorem bitplaneColumns : Obligations.BitplaneColumns := by
  refine ⟨rfl, fun s t hfault hbpu hlores hhires hexec c p => ?_⟩
  rw [exec_rebuild_owner hfault hbpu hexec, State.currentTable, ownerTable_eq_bpl_iff hlores hhires,
    planeAt_default_iff hlores hhires hbpu]
  rfl

/-! ### The default fixed slots (R193) -/

theorem defaultFixedSlots_aud (n : Fin 4) : Config.defaultFixedSlots.aud[n] = 0x0D + 2 * n.val := by
  revert n; decide

theorem defaultFixedSlots_spr (n : Fin 8) (k : Fin 2) :
    Config.defaultFixedSlots.spr[n][k] = 0x15 + 4 * n.val + 2 * k.val := by
  revert n k; decide

theorem mem_defaultFixedSlots_disk (c : Nat) :
    c ∈ Config.defaultFixedSlots.disk ↔ c = 0x07 ∨ c = 0x09 ∨ c = 0x0B := by
  simp [Config.defaultFixedSlots]

/-- With the default fixed slots the table before the bitplanes is R193's. -/
theorem fixedTable_default_iff {cfg : Config} (h : cfg.fixedSlots = Config.defaultFixedSlots) (d : Word) (c : Nat) :
    ((fixedTable cfg d)[c]? = some .disk ↔ d.getLsbD 4 = true ∧ (c = 0x07 ∨ c = 0x09 ∨ c = 0x0B)) ∧
      (∀ n : Fin 4, (fixedTable cfg d)[c]? = some (.aud n) ↔ d.getLsbD n.val = true ∧ c = 0x0D + 2 * n.val) ∧
      (∀ (n : Fin 8) (k : Fin 2), (fixedTable cfg d)[c]? = some (.spr n k) ↔
        d.getLsbD 5 = true ∧ c = 0x15 + 4 * n.val + 2 * k.val) := by
  rcases Nat.lt_or_ge c 227 with hc | hc
  case inr =>
    have hnone {o : Owner} : (fixedTable cfg d)[c]? ≠ some o := fun ho => hc.not_gt (lt_of_fixedTable_getElem? ho)
    exact ⟨iff_of_false hnone (by omega), fun n => iff_of_false hnone (by omega),
      fun n k => iff_of_false hnone (by omega)⟩
  have hcases := fixedTable_cases cfg d hc
  simp only [h, defaultFixedSlots_aud, defaultFixedSlots_spr, mem_defaultFixedSlots_disk] at hcases
  rcases hcases with ⟨m, j, ⟨hbit, hcol⟩, heq⟩ | ⟨m, ⟨hbit, hcol⟩, heq⟩ | ⟨hhit, heq⟩ | ⟨hspr, haud, hdisk, heq⟩
  · refine ⟨iff_of_false (by simp [heq]) (by omega), fun n => iff_of_false (by simp [heq]) (by omega), fun n k => ?_⟩
    rw [heq, Option.some_inj, Owner.spr.injEq]
    exact ⟨fun ⟨hn, hk⟩ => hn ▸ hk ▸ ⟨hbit, hcol⟩, fun ⟨_, hcol'⟩ => ⟨Fin.ext (by omega), Fin.ext (by omega)⟩⟩
  · refine ⟨iff_of_false (by simp [heq]) (by omega), fun n => ?_, fun n k => iff_of_false (by simp [heq]) (by omega)⟩
    rw [heq, Option.some_inj, Owner.aud.injEq]
    exact ⟨fun hn => hn ▸ ⟨hbit, hcol⟩, fun ⟨_, hcol'⟩ => Fin.ext (by omega)⟩
  · exact ⟨iff_of_true heq hhit, fun n => iff_of_false (by simp [heq]) (by omega),
      fun n k => iff_of_false (by simp [heq]) (by omega)⟩
  · exact ⟨iff_of_false (by simp [heq]) hdisk, fun n => iff_of_false (by simp [heq]) (haud n),
      fun n k => iff_of_false (by simp [heq]) (hspr n k)⟩

/-- Settles O26: a column that no bitplane owns keeps its owner from the table before the bitplanes, and the default slots of
that table are distinct columns. -/
theorem fixedColumns : Obligations.FixedColumns := by
  intro s t hfault hbpu hslots hexec c hnobpl
  rw [exec_rebuild_owner hfault hbpu hexec, State.currentTable] at hnobpl ⊢
  cases hdmaen : s.dmacon.getLsbD 9
  case false =>
    have hempty {o : Owner} (ho : o ≠ .none) : (List.replicate Config.cols Owner.none)[c]? ≠ some o :=
      fun h => ho (replicate_none_getElem? h)
    rw [ownerTable_of_not_dmaen hdmaen]
    exact ⟨iff_of_false (hempty nofun) (fun h => Bool.noConfusion h.1),
      fun n => iff_of_false (hempty nofun) (fun h => Bool.noConfusion h.1),
      fun n k => iff_of_false (hempty nofun) (fun h => Bool.noConfusion h.1)⟩
  case true =>
    rw [ownerTable_of_dmaen hdmaen] at hnobpl ⊢
    rw [placeBitplanes_of_ne_bpl hnobpl]
    simpa only [true_and] using fixedTable_default_iff hslots s.dmacon c

end Sys2Proof.Machine

/-! The DMA Dispatcher (43_dma_dispatcher.md): what a transfer of an owned column leaves, the move to the next populated
column (R220) and DMA_FIRE at each owner. -/

namespace Sys2Proof.Machine

/-! ### What the transfer of an owned column leaves -/

@[simp] theorem fetchThrough_fault (s : State) (p : PtrId) (m : Word) : (s.fetchThrough p m).fault = s.fault :=
  setPtr_fault ..

@[simp] theorem fetchThrough_next (s : State) (p : PtrId) (m : Word) : (s.fetchThrough p m).next = s.next :=
  setPtr_next ..

/-- The notification of plane 1 is one more record, and the other planes send none (R222). -/
theorem bplFetch_eq (p : Fin 6) (c : Nat) (s : State) :
    bplFetch p c s = { s.fetchThrough (.bpl p) (s.fetchModulo p c) with
      bpldat := s.bpldat.set p (s.wordAt s.bplpt[p])
      history := s.history ++ [⟨s.clock, .read (chipAddr s.bplpt[p])⟩] ++
        (if p = 0 then [⟨s.clock, .notify .plane1Data⟩] else []) } := by
  by_cases hp : p = 0
  · rw [bplFetch, if_pos hp, if_pos hp]; rfl
  · rw [bplFetch, if_neg hp, if_neg hp, List.append_nil]; rfl

/-- Only the transfer of an unowned column raises a fault. -/
theorem transfer_fault {o : Owner} (ho : o ≠ .none) (c : Nat) (s : State) : (transfer o c s).fault = s.fault := by
  cases o with
  | none => exact absurd rfl ho
  | bpl p => rw [transfer, bplFetch_eq]; exact fetchThrough_fault ..
  | aud n => exact fetchThrough_fault s (.aud n) 0
  | spr n k => exact fetchThrough_fault s (.spr n) 0
  | disk => exact fetchThrough_fault s .dsk 0

theorem transfer_next (o : Owner) (c : Nat) (s : State) : (transfer o c s).next = s.next := by
  cases o with
  | none => exact raiseFatal_next ..
  | bpl p => rw [transfer, bplFetch_eq]; exact fetchThrough_next ..
  | aud n => exact fetchThrough_next s (.aud n) 0
  | spr n k => exact fetchThrough_next s (.spr n) 0
  | disk => exact fetchThrough_next s .dsk 0

theorem transfer_clock (o : Owner) (c : Nat) (s : State) : (transfer o c s).clock = s.clock :=
  congrArg CyclePart.clock (transfer_cyclePart o c s)

theorem transfer_column (o : Owner) (c : Nat) (s : State) : (transfer o c s).column = s.column :=
  congrArg CyclePart.column (transfer_cyclePart o c s)

/-! ### The next populated column -/

theorem ownerAt_of_getElem? {s : State} {c : Nat} {o : Owner} (h : s.owner[c]? = some o) : s.ownerAt c = o := by
  rw [State.ownerAt, h, Option.getD_some]

/-- A next column that lies later is at least one cycle ahead, so its entry is admissible whichever handler is running. -/
theorem nextColumn_eq {s : State} {n : Option Nat} (hnext : s.next[s.column]? = some n)
    (hlater : ∀ c, n = some c → s.column < c) :
    nextColumn s =
      s.setSlot .dma (n.map fun c => ⟨s.clock + (c - s.column), .dmaFetch, BitVec.ofNat 64 c⟩) := by
  rw [nextColumn, nextAt_of_getElem? hnext]
  cases n with
  | none => rfl
  | some c =>
    have hlt := hlater c rfl
    have hoffset : (c : Int) - (s.column : Int) = ((c - s.column : Nat) : Int) := by omega
    simp only [hoffset, Option.map_some]
    exact scheduleOwn_eq .dma (BitVec.ofNat 64 c) s (by omega)

/-! ### DMA_FIRE -/

/-- DMA_FIRE at an owned column is the owner's transfer and the move of the DMA slot to the next populated column (R220). -/
theorem exec_dmaFire_owned {s : State} (payload : Payload) {o : Owner} {n : Option Nat} (hfault : s.fault = none)
    (howner : s.owner[s.column]? = some o) (ho : o ≠ .none) (hnext : s.next[s.column]? = some n)
    (hlater : ∀ c, n = some c → s.column < c) :
    exec (.dmaFire payload) s = .next ((transfer o s.column s).setSlot .dma
      (n.map fun c => ⟨s.clock + (c - s.column), .dmaFetch, BitVec.ofNat 64 c⟩)) := by
  have hrun : (transfer o s.column s).fault = none := by rw [transfer_fault ho, hfault]
  have hmove := nextColumn_eq (s := transfer o s.column s) (n := n) (by rwa [transfer_next, transfer_column])
    (by rwa [transfer_column])
  rw [transfer_clock, transfer_column] at hmove
  rw [exec_dmaFire_run payload hfault, dmaFire, ownerAt_of_getElem? howner, andThen_run hrun, hmove]

/-- At a column with owner NONE the fault ends the handler (R220). -/
theorem exec_dmaFire_unowned {s : State} (payload : Payload) (hfault : s.fault = none)
    (howner : s.owner[s.column]? = some .none) :
    exec (.dmaFire payload) s = .next (Claims.faulted s (.dmaUnownedColumn s.column)) := by
  have htransfer : transfer .none s.column s = Claims.faulted s (.dmaUnownedColumn s.column) := raiseFatal_eq _ hfault
  have hhalts : (transfer .none s.column s).fault ≠ none := raiseFatal_halts _ s
  rw [exec_dmaFire_run payload hfault, dmaFire, ownerAt_of_getElem? howner, andThen_stop hhalts, htransfer]

/-- `planeMod` counts planes from 1: planes 1, 3, 5 are the indices 0, 2, 4 (R223). -/
theorem planeMod_eq (s : State) (p : Fin 6) :
    s.planeMod p = if p = 0 ∨ p = 2 ∨ p = 4 then s.bpl1mod else s.bpl2mod := by
  have heven : p.val % 2 = 0 ↔ p = 0 ∨ p = 2 ∨ p = 4 := by revert p; decide
  rw [State.planeMod, if_congr heven rfl rfl]

/-- The increment of a plane's pointer beyond 2 is its modulo, sign-extended, at the last fetch and 0 before it. -/
theorem sext32_fetchModulo (s : State) (p : Fin 6) (c : Nat) :
    sext32 (s.fetchModulo p c) = if s.lastFetch[p] = some c then
      sext32 (if p = 0 ∨ p = 2 ∨ p = 4 then s.bpl1mod else s.bpl2mod) else 0 := by
  rw [State.fetchModulo, planeMod_eq]
  exact apply_ite sext32 ..

/-- Settles O30: the plane's transfer, with its modulo and its notification, and the move to the next column. -/
theorem dmaFireFetchesABitplane : Obligations.DmaFireFetchesABitplane := by
  intro s payload p n hfault howner hnext hlater
  rw [exec_dmaFire_owned payload hfault howner nofun hnext hlater, transfer, bplFetch_eq, ← sext32_fetchModulo]
  rfl

/-- Settles O31: each transfer adds the modulo 0 and sends no notification; at an unowned column nothing follows the fault. -/
theorem dmaFireFetchesTheOthers : Obligations.DmaFireFetchesTheOthers := by
  intro s payload n hfault hnext hlater
  refine ⟨fun k howner => ?_, fun k j howner => ?_, fun howner => ?_, exec_dmaFire_unowned payload hfault⟩
  all_goals
    rw [exec_dmaFire_owned payload hfault howner nofun hnext hlater]
    rfl

end Sys2Proof.Machine

/-! The Blitter Sequencer (44_blitter_sequencer.md): the micro-actions, the refusals of a start, and a step of the
micro-program as the run of its word's actions. -/

namespace Sys2Proof.Machine

/-! ### The micro-actions with no fault set -/

theorem exec_fetchA_run {s : State} (h : s.fault = none) : exec .fetchA s = .next (fetchA s) :=
  congrArg _ (unlessHalted_run h)

theorem exec_fetchB_run {s : State} (h : s.fault = none) : exec .fetchB s = .next (fetchB s) :=
  congrArg _ (unlessHalted_run h)

theorem exec_fetchC_run {s : State} (h : s.fault = none) : exec .fetchC s = .next (fetchC s) :=
  congrArg _ (unlessHalted_run h)

theorem exec_holdA_run {s : State} (h : s.fault = none) : exec .holdA s = .next (holdA s) :=
  congrArg _ (unlessHalted_run h)

theorem exec_holdB_run {s : State} (h : s.fault = none) : exec .holdB s = .next (holdB s) :=
  congrArg _ (unlessHalted_run h)

theorem exec_holdD_run {s : State} (h : s.fault = none) : exec .holdD s = .next (holdD s) :=
  congrArg _ (unlessHalted_run h)

theorem exec_writeD_run {s : State} (h : s.fault = none) : exec .writeD s = .next (writeD s) :=
  congrArg _ (unlessHalted_run h)

theorem exec_loopback_run {s : State} (n : BitVec 6) (actions : BitVec 7) (h : s.fault = none) :
    exec (.loopback n actions) s = .next (loopBack n actions s) :=
  congrArg _ (unlessHalted_run h)

theorem exec_bltidle_run {s : State} (h : s.fault = none) : exec .bltidle s = .next (stepUpc s) :=
  congrArg _ (unlessHalted_run h)

/-- Settles O34: each fetch reads at its pointer and advances it, `badv` being R95's reduction of the advance. -/
theorem fetchActions : Obligations.FetchActions := by
  intro s hfault
  rw [exec_fetchC_run hfault, exec_fetchA_run hfault, exec_fetchB_run hfault]
  exact ⟨rfl, rfl, rfl⟩

/-- Settles O35: the masked word of HOLD_A goes through the shifter and is kept as the next `aold`. -/
theorem holdActions : Obligations.HoldActions := by
  intro s am hfault ham
  rw [exec_holdA_run hfault, exec_holdB_run hfault, ham]
  exact ⟨rfl, rfl⟩

/-! ### HOLD_D (R255) -/

theorem countWord_within_row {b : Blitter} (hwc : 1 < b.wc) : b.countWord = { b with wc := b.wc - 1 } := by
  have hless : b.wcLessOne = b.wc - 1 := if_neg (by omega)
  rw [Blitter.countWord, hless, if_neg (by omega)]

theorem wcLessOne_of_one {b : Blitter} (hwc : b.wc = 1) : b.wcLessOne = 0 := by
  rw [Blitter.wcLessOne, if_neg (by omega), hwc]

theorem countWord_row_end {b : Blitter} (hwc : b.wc = 1) (hhc : 1 < b.hc) :
    b.countWord = { b with wc := b.wload, hc := b.hc - 1 } := by
  have hless : b.hcLessOne = b.hc - 1 := if_neg (by omega)
  rw [Blitter.countWord, if_pos (wcLessOne_of_one hwc), hless, if_neg (by omega)]

theorem countWord_transfer_end {b : Blitter} (hwc : b.wc = 1) (hhc : b.hc = 1) :
    b.countWord = { b with wc := 0, hc := 0, done := true } := by
  have hless : b.hcLessOne = 0 := by rw [Blitter.hcLessOne, if_neg (by omega), hhc]
  rw [Blitter.countWord, if_pos (wcLessOne_of_one hwc), if_pos hless]

theorem exec_holdD_of_countWord {s : State} {b : Blitter} (hfault : s.fault = none)
    (hcount : { s.blt with dhold := s.blt.combined }.countWord = b) : exec .holdD s = .next { s with blt := b } := by
  rw [exec_holdD_run hfault, holdD, hcount]

/-- Settles O36, by the three ways a word is counted. -/
theorem holdDCountsTheWord : Obligations.HoldDCountsTheWord := by
  rintro s d hfault rfl
  exact ⟨fun hwc => exec_holdD_of_countWord hfault (countWord_within_row hwc),
    fun hwc hhc => exec_holdD_of_countWord hfault (countWord_row_end hwc hhc),
    fun hwc hhc => exec_holdD_of_countWord hfault (countWord_transfer_end hwc hhc)⟩

/-! ### The combiner (R257) -/

/-- An AND-term has bit j set where the operands' bits are the bits of its index. -/
theorem mintermTerm_getLsbD (i : Nat) (a b c : Word) {j : Nat} (hj : j < 16) :
    (mintermTerm i a b c).getLsbD j =
      (a.getLsbD j == i.testBit 2 && b.getLsbD j == i.testBit 1 && c.getLsbD j == i.testBit 0) := by
  have hoperand (bit : Bool) (x : Word) : (if bit then x else ~~~x).getLsbD j = (x.getLsbD j == bit) := by
    cases bit <;> simp [hj]
  rw [mintermTerm, BitVec.getLsbD_and, BitVec.getLsbD_and, hoperand, hoperand, hoperand]

theorem selectedTerm_getLsbD (lf : BitVec 8) (i : Nat) (a b c : Word) {j : Nat} (hj : j < 16) :
    (selectedTerm lf i a b c).getLsbD j = (lf.getLsbD i &&
      (a.getLsbD j == i.testBit 2 && b.getLsbD j == i.testBit 1 && c.getLsbD j == i.testBit 0)) := by
  rw [selectedTerm, ← mintermTerm_getLsbD i a b c hj]
  cases lf.getLsbD i <;> simp

/-- Settles O39: at the operands' bits a, b, c only the term of index 4a + 2b + c has bit j set, when it is selected. -/
theorem mintermIsTheSelectedFunction : Obligations.MintermIsTheSelectedFunction := by
  intro lf a b c j hj
  simp only [minterm, BitVec.getLsbD_or, selectedTerm_getLsbD lf _ a b c hj]
  cases a.getLsbD j <;> cases b.getLsbD j <;> cases c.getLsbD j <;> simp [Nat.testBit]

/-! ### WRITE_D (R256) -/

/-- Settles O37: WRITE_D's memory is the old one with the word stored, of which the laws of chip memory speak. -/
theorem writeDStoresTheWord : Obligations.WriteDStoresTheWord := by
  intro s hfault hwf
  refine ⟨writeD s, exec_writeD_run hfault, rfl, writeWord_wf _ _ hwf, readWord_writeWord_same _ _ hwf,
    fun a heven hodd => ?_⟩
  have hread := readByte_writeWord (chipAddr s.blt.dpt) s.blt.dhold hwf a
  rwa [if_neg hodd, if_neg heven] at hread

/-! ### LOOPBACK and BLTIDLE (R258, R114) -/

theorem progLength_of_prog {b : Blitter} {program : List Word} (h : b.prog = some program) :
    b.progLength = program.length := by
  rw [Blitter.progLength, h]

/-- Settles O38: the check of each action decides between its fault and its move of `upc`. -/
theorem loopbackAndIdleMoveUpc : Obligations.LoopbackAndIdleMoveUpc := by
  intro s hfault
  refine ⟨fun n actions hn hle => ?_, fun n actions hout => ?_, fun program hprog hlt => ?_, fun program hprog hle => ?_⟩
  · rw [exec_loopback_run n actions hfault, loopBack, if_neg (not_or.mpr ⟨hn, BitVec.not_lt.mpr hle⟩)]
  · rw [exec_loopback_run n actions hfault, loopBack, if_pos hout, raiseFatal_eq _ hfault]
    rfl
  · rw [exec_bltidle_run hfault, stepUpc, progLength_of_prog hprog, if_neg (by omega)]
  · rw [exec_bltidle_run hfault, stepUpc, progLength_of_prog hprog, if_pos hle, raiseFatal_eq _ hfault]
    rfl

/-! ### A refused start (R242 to R244) -/

theorem busy_eq_true_iff (b : Blitter) : b.busy = true ↔ b.state ≠ .idle := bne_iff_ne

theorem blitterDma_eq_false_iff (dmacon : Word) :
    blitterDma dmacon = false ↔ dmacon.getLsbD 9 = false ∨ dmacon.getLsbD 6 = false := Bool.and_eq_false_iff

/-- Settles O33: the checks of a start stand in the spec's order, and the first that fails raises its fault. -/
theorem bltStartRefusesInOrder : Obligations.BltStartRefusesInOrder := by
  intro s hfault
  rw [exec_bltStart_run hfault, blitStart]
  have hraise (f : Fatal) : raiseFatal f s = Claims.faulted s f := raiseFatal_eq f hfault
  have hidle (h : s.blt.state = .idle) : ¬ s.blt.busy = true := fun hbusy => (busy_eq_true_iff _).mp hbusy h
  have hdma (h9 : s.dmacon.getLsbD 9 = true) (h6 : s.dmacon.getLsbD 6 = true) : ¬ blitterDma s.dmacon = false := by
    simp [blitterDma_eq_false_iff, h9, h6]
  refine ⟨fun hbusy => ?_, fun hstate hoff => ?_, fun hstate h9 h6 hmode => ?_, fun hstate h9 h6 hmode hprog => ?_⟩
  · rw [if_pos ((busy_eq_true_iff _).mpr hbusy), hraise]
  · rw [if_neg (hidle hstate), if_pos ((blitterDma_eq_false_iff _).mpr hoff), hraise]
  · rw [if_neg (hidle hstate), if_neg (hdma h9 h6), if_pos hmode, hraise]
  · have hnone : s.programFor (channelMask s.blt.bltcon0) = none := hprog
    rw [if_neg (hidle hstate), if_neg (hdma h9 h6), if_neg (not_not.mpr hmode), hnone]
    exact congrArg _ (hraise _)

/-! ### The step (R247, R248) -/

/-- From a state with no fault the operations of the list answer `f` of it, which holds no fault either. -/
def RunsAs (actions : List Instr) (f : State → State) : Prop :=
  ∀ s, s.fault = none → execSeq actions s = .next (f s) ∧ (f s).fault = none

theorem runsAs_nil : RunsAs [] id := fun _ hfault => ⟨rfl, hfault⟩

/-- An action put in front when its bit is set runs first when its bit is set. -/
theorem runsAs_whenSet {i : Instr} {f g : State → State} {rest : List Instr} (bit : Bool)
    (hexec : ∀ {s : State}, s.fault = none → exec i s = .next (f s)) (hkeep : ∀ s, (f s).fault = s.fault)
    (hrest : RunsAs rest g) : RunsAs (whenSet bit i rest) (g ∘ whenBit bit f) := by
  intro s hfault
  cases bit
  case false => exact hrest s hfault
  case true =>
    have hrun : (f s).fault = none := (hkeep s).trans hfault
    have hseq : execSeq (i :: rest) s = execSeq rest (f s) := by
      rw [execSeq, hexec hfault]
      simp only [halted_eq_false hrun]
      rfl
    obtain ⟨hnext, hstay⟩ := hrest (f s) hrun
    exact ⟨hseq.trans hnext, hstay⟩

theorem filter_whenSet_of_pos {p : Instr → Bool} {i : Instr} (bit : Bool) (rest : List Instr) (h : p i = true) :
    (whenSet bit i rest).filter p = whenSet bit i (rest.filter p) := by
  cases bit
  case false => rfl
  case true => exact List.filter_cons_of_pos h

theorem filter_whenSet_of_neg {p : Instr → Bool} {i : Instr} (bit : Bool) (rest : List Instr) (h : ¬ p i = true) :
    (whenSet bit i rest).filter p = rest.filter p := by
  cases bit
  case false => rfl
  case true => exact List.filter_cons_of_neg h

/-- The actions of a word but for its LOOPBACK, in turn through `exec`, are `runActions`: both are in R248's order. -/
theorem microActions_runsAs (u : Word) :
    RunsAs ((microActions u).filter fun i => i != .loopback (microOffset u) (u.extractLsb' 0 7)) (runActions u) := by
  rw [microActions]
  iterate 7 rw [filter_whenSet_of_pos (h := rfl)]
  rw [filter_whenSet_of_neg (h := by simp)]
  exact runsAs_whenSet _ exec_fetchC_run (fun _ => rfl) <| runsAs_whenSet _ exec_fetchA_run (fun _ => rfl) <|
    runsAs_whenSet _ exec_fetchB_run (fun _ => rfl) <| runsAs_whenSet _ exec_holdA_run (fun _ => rfl) <|
    runsAs_whenSet _ exec_holdB_run (fun _ => rfl) <| runsAs_whenSet _ exec_holdD_run (fun _ => rfl) <|
    runsAs_whenSet _ exec_writeD_run (fun _ => rfl) runsAs_nil

/-- The last action of a word is its LOOPBACK, or BLTIDLE's advance where it has none. -/
theorem exec_advanceMicro_run (u : Word) {s : State} (h : s.fault = none) :
    exec (if u.getLsbD 7 then .loopback (microOffset u) (u.extractLsb' 0 7) else .bltidle) s =
      .next (advanceMicro u s) := by
  rw [advanceMicro]
  split
  · exact exec_loopback_run _ _ h
  · exact exec_bltidle_run h

theorem finishStep_of_done (u : Word) {s : State} (h : s.blt.done = true) :
    finishStep u s = { s with blt.state := .idle } :=
  if_pos h

theorem finishStep_of_not_done (u : Word) {s : State} (h : s.blt.done = false) :
    finishStep u s = andThen (advanceMicro u) (scheduleOwn .blitter 1 0) s :=
  if_neg (by simp [h])

/-- The next step is always an admissible entry: it lies one cycle ahead (R247). -/
theorem scheduleOwn_blitter_next_cycle (s : State) :
    scheduleOwn .blitter 1 0 s = { s with slots := s.slots.set .blitter (some ⟨s.clock + 1, .bltStep, 0⟩) } :=
  scheduleOwn_eq .blitter 0 s le_rfl

/-- A step at a legal word runs its actions from the step's latched state and then ends the step. -/
theorem bltStep_of_decodeMicro {s : State} {program : List Word} {u : Word} {actions : List Instr}
    (hprog : s.blt.prog = some program) (hword : program[s.blt.upc.toNat]? = some u)
    (hdecode : decodeMicro u = .ok actions) :
    actions = microActions u ∧ bltStep s = finishStep u (runActions u (Claims.atStep s)) := by
  have hcurrent : s.blt.currentWord = some u := by rw [Blitter.currentWord, hprog]; exact hword
  unfold decodeMicro at hdecode
  split at hdecode
  case h_1 => cases hdecode
  case h_2 hlegal =>
    cases hdecode
    refine ⟨rfl, ?_⟩
    rw [bltStep, hcurrent]
    simp only [illegalMicro, hlegal]
    rfl

/-- Settles O8: the step is its actions' run and its end; the state at the end is the one the actions answered, and neither
they nor the advance move the clock from which the next step is scheduled. -/
theorem microStepRunsItsActions : Obligations.MicroStepRunsItsActions := by
  intro s program u actions hfault hprog hword hdecode
  obtain ⟨rfl, hstep⟩ := bltStep_of_decodeMicro hprog hword hdecode
  obtain ⟨hseq, hrun⟩ := microActions_runsAs u (Claims.atStep s) hfault
  rw [exec_bltStepFire_run hfault, hstep]
  refine ⟨runActions u (Claims.atStep s), hseq, fun hdone => ?_, fun hdone =>
    ⟨advanceMicro u (runActions u (Claims.atStep s)), exec_advanceMicro_run u hrun, fun hstop => ?_, fun hgoes => ?_⟩⟩
  · rw [finishStep_of_done u hdone]
  · rw [finishStep_of_not_done u hdone, andThen_stop hstop]
  · have hclock : (advanceMicro u (runActions u (Claims.atStep s))).clock = s.clock :=
      clock_of_cyclePart ((advanceMicro_cyclePart u _).trans (runActions_cyclePart u _))
    rw [finishStep_of_not_done u hdone, andThen_run hgoes, scheduleOwn_blitter_next_cycle, hclock]

end Sys2Proof.Machine

/-! The register interface (45_register_interface.md): the pokes of the pointers, the modulos, the fetch window, DMACON,
BLTSIZE and the plain Blitter registers. -/

namespace Sys2Proof.Machine

/-- With no fault set a poke is recorded and then applied (R291). -/
theorem exec_poke_run {s : State} (r : Reg) (v : Word) (h : s.fault = none) :
    exec (r.instr (.poke v)) s = .next (pokeReg r v (s.log (.poke r v))) :=
  exec_reg_run h

/-! ### Pointers and modulos (R294 to R296) -/

/-- A write of a pointer register changes fields of pointer registers only. -/
theorem setPtr_eq (s : State) (p : PtrId) (x : Ptr) :
    s.setPtr p x = { s with
      dskpt := (s.setPtr p x).dskpt, audpt := (s.setPtr p x).audpt
      bplpt := (s.setPtr p x).bplpt, sprpt := (s.setPtr p x).sprpt
      blt := { s.blt with
        apt := (s.setPtr p x).blt.apt, bpt := (s.setPtr p x).blt.bpt
        cpt := (s.setPtr p x).blt.cpt, dpt := (s.setPtr p x).blt.dpt } } := by
  rcases p with _ | (_ | _ | _ | _) | _ | _ | _ <;> rfl

/-- A write of a modulo register changes fields of modulo registers only. -/
theorem setModulo_eq (s : State) (m : ModId) (x : Word) :
    s.setModulo m x = { s with
      bpl1mod := (s.setModulo m x).bpl1mod, bpl2mod := (s.setModulo m x).bpl2mod
      blt := { s.blt with
        amod := (s.setModulo m x).blt.amod, bmod := (s.setModulo m x).blt.bmod
        cmod := (s.setModulo m x).blt.cmod, dmod := (s.setModulo m x).blt.dmod } } := by
  rcases m with _ | _ | (_ | _ | _ | _) <;> rfl

/-- Settles O42: the poke is a write of its pointer in the state with the poke recorded. -/
theorem pointerHighPokes : Obligations.PointerHighPokes := fun s p v hfault =>
  ⟨(s.log (.poke (.pth p) v)).setPtr p (withHighWord (s.ptr p) v), exec_poke_run (.pth p) v hfault,
    ptr_setPtr_same .., fun _ hq => ptr_setPtr_other _ _ hq, setPtr_eq ..⟩

/-- Settles O43: the poke is a write of its pointer in the state with the poke recorded. -/
theorem pointerLowPokes : Obligations.PointerLowPokes := fun s p v hfault =>
  ⟨(s.log (.poke (.ptl p) v)).setPtr p (withLowWord (s.ptr p) v), exec_poke_run (.ptl p) v hfault,
    ptr_setPtr_same .., fun _ hq => ptr_setPtr_other _ _ hq, setPtr_eq ..⟩

/-- Settles O44: the poke is a write of its modulo in the state with the poke recorded. -/
theorem moduloPokes : Obligations.ModuloPokes := fun s m v hfault =>
  ⟨(s.log (.poke (.mod m) v)).setModulo m (moduloOf v), exec_poke_run (.mod m) v hfault,
    modulo_setModulo_same .., fun _ hq => modulo_setModulo_other _ _ hq, setModulo_eq ..⟩

/-! ### Pokes that rebuild (R292, R293) -/

@[simp] theorem rebuild_dmacon (s : State) : (rebuild s).dmacon = s.dmacon := by
  rcases rebuild_cases s with ⟨_, h⟩ | ⟨_, _, h, _⟩ <;> rw [h] <;> rfl

@[simp] theorem rebuild_ddfstrt (s : State) : (rebuild s).ddfstrt = s.ddfstrt := by
  rcases rebuild_cases s with ⟨_, h⟩ | ⟨_, _, h, _⟩ <;> rw [h] <;> rfl

@[simp] theorem rebuild_ddfstop (s : State) : (rebuild s).ddfstop = s.ddfstop := by
  rcases rebuild_cases s with ⟨_, h⟩ | ⟨_, _, h, _⟩ <;> rw [h] <;> rfl

/-- A poke that stores and then rebuilds answers what REBUILD answers on the stored state: a register the rebuild keeps holds
what was stored, and only a plane count above 6 is fatal. -/
theorem exec_poke_of_rebuild {s stored : State} {r : Reg} {v : Word} {reg : State → Word}
    (hreg : ∀ t, reg (rebuild t) = reg t) (hfault : s.fault = none) (hstored : stored.fault = s.fault)
    (hpixel : stored.pixel = s.pixel) (hpoke : pokeReg r v (s.log (.poke r v)) = rebuild stored) :
    ∃ t, exec .rebuild stored = .next t ∧ exec (r.instr (.poke v)) s = .next t ∧ reg t = reg stored ∧
      (s.pixel.bpu ≤ 6 → t.fault = none) := by
  have hrun : stored.fault = none := hstored.trans hfault
  refine ⟨rebuild stored, exec_rebuild_run hrun, ?_, hreg stored, fun hbpu => ?_⟩
  · rw [exec_poke_run r v hfault, hpoke]
  · rw [rebuild_fault_of_le (by rwa [hpixel]), hrun]

/-- Settles O45: both pokes store the masked value and rebuild, which keeps the fetch window. -/
theorem fetchWindowPokes : Obligations.FetchWindowPokes :=
  ⟨rfl, fun _ _ hfault =>
    ⟨exec_poke_of_rebuild (r := .ddfstrt) rebuild_ddfstrt hfault rfl rfl rfl,
      exec_poke_of_rebuild (r := .ddfstop) rebuild_ddfstop hfault rfl rfl rfl⟩⟩

theorem blitterDma_eq_true_iff (dmacon : Word) :
    blitterDma dmacon = true ↔ dmacon.getLsbD 9 = true ∧ dmacon.getLsbD 6 = true := Bool.and_eq_true_iff

/-- The model's condition for abandoning a transfer is R260's, bit by bit. -/
theorem abandons_iff (s : State) (new : Word) :
    (blitterDma s.dmacon = true ∧ blitterDma new = false ∧ s.blt.busy = true) ↔
      s.dmacon.getLsbD 9 = true ∧ s.dmacon.getLsbD 6 = true ∧ (new.getLsbD 9 = false ∨ new.getLsbD 6 = false) ∧
        s.blt.state ≠ .idle := by
  rw [blitterDma_eq_true_iff, blitterDma_eq_false_iff, busy_eq_true_iff, and_assoc]

/-- Settles O46: the poke rebuilds the state `storeDmacon` leaves, whose one condition is R260's. -/
theorem dmaconPoke : Obligations.DmaconPoke := by
  rintro s v new hfault rfl
  have habandons := abandons_iff s (setClear s.dmacon v)
  refine ⟨fun hfalls => ?_, fun hstays => ?_⟩
  · exact exec_poke_of_rebuild (r := .dmacon) rebuild_dmacon hfault rfl rfl
      (congrArg rebuild (if_pos (habandons.mpr hfalls)))
  · exact exec_poke_of_rebuild (r := .dmacon) rebuild_dmacon hfault rfl rfl
      (congrArg rebuild (if_neg (mt habandons.mp hstays)))

/-! ### BLTSIZE (R297) and the plain Blitter registers (R304, R305) -/

/-- A start that is not refused begins the transfer and schedules its first step after the start delay (R246). -/
theorem blitStart_of_startOk {s : State} {program : List Word} (h : Claims.StartOk s program) :
    blitStart s = scheduleOwn .blitter s.cfg.blitStartDelay 0 (Claims.begun s program) := by
  obtain ⟨hidle, hdmaen, hblten, hmode, hprogram⟩ := h
  have hbusy : ¬ s.blt.busy = true := fun hbusy => (busy_eq_true_iff _).mp hbusy hidle
  have hdma : ¬ blitterDma s.dmacon = false := by simp [blitterDma_eq_false_iff, hdmaen, hblten]
  have hselected : s.programFor (channelMask s.blt.bltcon0) = some program := hprogram
  rw [blitStart, if_neg hbusy, if_neg hdma, if_neg (not_not.mpr hmode), hselected]
  rfl

/-- With an admissible start delay it leaves the started state. -/
theorem blitStart_eq_started {s : State} {program : List Word} (h : Claims.StartOk s program)
    (hdelay : Claims.DelayOk s) : blitStart s = Claims.started s program :=
  (blitStart_of_startOk h).trans (scheduleOwn_install .blitter 0 (Claims.begun s program) hdelay)

/-- Settles O49: the poke is the start of the stored state, which meets the start's preconditions when the state before does:
the size word and the history are in none of them. -/
theorem bltsizePokeStartsATransfer : Obligations.BltsizePokeStartsATransfer := by
  intro s stored v hfault hstored
  have hpoke : exec (.bltsize (.poke v)) s = .next (blitStart stored) := by
    rw [hstored]
    exact exec_poke_run .bltsize v hfault
  have hrun : stored.fault = none := by rw [hstored, hfault]
  refine ⟨by rw [hpoke, exec_bltStart_run hrun], fun program hok hdelay => ?_⟩
  have hready : Claims.StartOk stored program := by
    rw [hstored]
    exact ⟨hok.idle, hok.dmaen, hok.blten, hok.mode, hok.program⟩
  have hsoon : Claims.DelayOk stored := by
    rw [hstored]
    exact hdelay
  rw [hpoke, blitStart_eq_started hready hsoon]

/-- Settles O48: none of these pokes has a check or an effect beside the store. -/
theorem plainBlitterPokes : Obligations.PlainBlitterPokes := fun _ v hfault =>
  ⟨exec_poke_run .bltcon1 v hfault, exec_poke_run .bltafwm v hfault, exec_poke_run .bltalwm v hfault⟩

end Sys2Proof.Machine

/-! Exceptions (60_exceptions.md R341): what the core still does with a fault set. -/

namespace Sys2Proof.Machine

/-- Every operation but the two that R341 admits is one function of the state, refused while halted. -/
theorem exec_eq_unlessHalted {i : Instr} (hsnapshot : i ≠ .hostSnapshot) (hreset : i ≠ .reset) :
    ∃ f : State → State, ∀ s, exec i s = .next (unlessHalted f s) := by
  cases i
  case hostSnapshot => exact absurd rfl hsnapshot
  case reset => exact absurd rfl hreset
  all_goals exact ⟨_, fun _ => rfl⟩

/-- So with a fault set such an operation answers the state it was given. -/
theorem exec_of_halted {i : Instr} {s : State} (hfault : s.fault ≠ none) (hsnapshot : i ≠ .hostSnapshot)
    (hreset : i ≠ .reset) : exec i s = .next s := by
  obtain ⟨f, hexec⟩ := exec_eq_unlessHalted hsnapshot hreset
  rw [hexec, unlessHalted_stay hfault]

/-- What a host control keeps, it keeps outside a cycle boundary too, where it has no effect. -/
theorem atBoundary_ind {P : State → Prop} {f : State → State} {s : State} (h0 : P s) (hf : P (f s)) :
    P (atBoundary f s) := by
  unfold atBoundary
  split
  · exact hf
  · exact h0

/-- A snapshot leaves the core as it is, faulted or not (R362). -/
theorem exec_hostSnapshot_toCore {s t : State} (h : exec .hostSnapshot s = .next t) : t.toCore = s.toCore := by
  obtain rfl : atBoundary (fun u => u.answer (.snapshot u.toCore)) s = t := Host.Outcome.next.inj h
  exact atBoundary_ind (P := fun u => u.toCore = s.toCore) rfl (answer_toCore _ _)

/-- Settles O53: every operation but the two that R341 admits answers the same state, and of those two the snapshot keeps the
core. -/
theorem haltRefusesAllButSnapshotAndReset : Obligations.HaltRefusesAllButSnapshotAndReset := by
  intro i s hfault hreset
  refine ⟨fun hsnapshot => exec_of_halted hfault hsnapshot hreset, fun t hexec => ?_⟩
  by_cases hsnapshot : i = .hostSnapshot
  · rw [hsnapshot] at hexec
    exact exec_hostSnapshot_toCore hexec
  · rw [exec_of_halted hfault hsnapshot hreset] at hexec
    rw [Host.Outcome.next.inj hexec]

end Sys2Proof.Machine

/-! The decoder undoes the encoder (30_encoding.md sections 1, 2 and 4), and a micro-word is the word of its row. -/

namespace Sys2Proof

/-! ### The micro-word of a LOOPBACK row (R110, R113) -/

theorem loopbackWord_reserved (n : BitVec 6) (actions : BitVec 7) :
    (loopbackWord n actions).extractLsb' 14 2 = 0 := by
  apply BitVec.eq_of_getLsbD_eq
  intro i hi
  simp only [loopbackWord, BitVec.getLsbD_append, BitVec.getLsbD_extractLsb']
  grind

theorem loopbackWord_offset (n : BitVec 6) (actions : BitVec 7) : microOffset (loopbackWord n actions) = n := by
  apply BitVec.eq_of_getLsbD_eq
  intro i hi
  simp only [microOffset, loopbackWord, BitVec.getLsbD_append, BitVec.getLsbD_extractLsb']
  grind

theorem loopbackWord_bit (n : BitVec 6) (actions : BitVec 7) : (loopbackWord n actions).getLsbD 7 = true := by
  simp only [loopbackWord, BitVec.getLsbD_append]
  rfl

theorem loopbackWord_actions (n : BitVec 6) (actions : BitVec 7) :
    (loopbackWord n actions).extractLsb' 0 7 = actions := by
  apply BitVec.eq_of_getLsbD_eq
  intro i hi
  simp only [loopbackWord, BitVec.getLsbD_append, BitVec.getLsbD_extractLsb']
  grind

theorem decodeUword_loopbackWord {n : BitVec 6} (actions : BitVec 7) (hn : n ≠ 0) :
    decodeUword (loopbackWord n actions) = .ok (.loopback n actions) := by
  have hlegal : microError (loopbackWord n actions) = none := by
    rw [microError_eq_none_iff_legal]
    exact ⟨loopbackWord_reserved n actions, fun hbit => absurd hbit (by rw [loopbackWord_bit]; decide),
      fun _ => (loopbackWord_offset n actions).trans_ne hn⟩
  simp only [decodeUword, hlegal, loopbackWord_bit, if_true, loopbackWord_offset, loopbackWord_actions]

/-- A word is put together again from its four fields. -/
theorem eq_append_of_fields (u : Word) :
    u = u.extractLsb' 14 2 ++ microOffset u ++ u.extractLsb' 7 1 ++ u.extractLsb' 0 7 := by
  apply BitVec.eq_of_getLsbD_eq
  intro i hi
  simp only [microOffset, BitVec.getLsbD_append, BitVec.getLsbD_extractLsb']
  grind

theorem extractLsb'_one_eq (u : Word) (bit : Bool) (h : u.getLsbD 7 = bit) :
    u.extractLsb' 7 1 = BitVec.ofBool bit := by
  apply BitVec.eq_of_getLsbD_eq
  intro i hi
  obtain rfl : i = 0 := by omega
  simp [h.symm]

/-- The rows without LOOPBACK are the words of the seven action bits alone: no word of several actions is one row, and the
others are the words of R110. -/
theorem microWord_of_actions (a : BitVec 7) :
    ∀ i ∈ (decodeUword ((0 : BitVec 2) ++ (0 : BitVec 6) ++ BitVec.ofBool false ++ a)).toOption,
      microWord i = some ((0 : BitVec 2) ++ (0 : BitVec 6) ++ BitVec.ofBool false ++ a) := by
  revert a
  decide

/-- Settles O2: a legal word is its LOOPBACK row's, put together from its fields, or has action bits only. -/
theorem microWordHasOneRow : Obligations.MicroWordHasOneRow := by
  intro u i hdecode
  have hlegal : microError u = none := by
    cases herror : microError u with
    | none => rfl
    | some e => rw [decodeUword, herror] at hdecode; cases hdecode
  obtain ⟨hreserved, hzero, _⟩ := (microError_eq_none_iff_legal u).mp hlegal
  have hsplit := eq_append_of_fields u
  cases hbit : u.getLsbD 7
  case true =>
    have hrow : decodeUword u = .ok (.loopback (microOffset u) (u.extractLsb' 0 7)) := by
      simp only [decodeUword, hlegal, hbit, if_true]
    rw [extractLsb'_one_eq u true hbit, hreserved] at hsplit
    rw [hrow] at hdecode
    cases hdecode
    exact congrArg some hsplit.symm
  case false =>
    rw [hreserved, extractLsb'_one_eq u false hbit, show microOffset u = 0 from hzero hbit] at hsplit
    rw [hsplit] at hdecode ⊢
    exact microWord_of_actions _ i (by rw [hdecode]; rfl)

/-- The decoder reads the word of a well-formed micro-action row as that row. -/
theorem decodeUword_microWord {i : Instr} {u : Word} (hrow : microWord i = some u) (hwf : i.wellFormed = true) :
    decodeUword u = .ok i := by
  cases i
  all_goals cases hrow
  case loopback n actions => exact decodeUword_loopbackWord actions (by simpa [Instr.wellFormed] using hwf)
  all_goals decide

theorem decode_uword_packet (u : Word) : decode ⟨.uword, 16, u.toNat, []⟩ = decodeUword u := by
  simp [decode, u.isLt]

/-! ### Register rows (R116, R290) -/

/-- A register row is the row of its register and its access. -/
theorem instr_of_access? {i : Instr} {r : Reg} {a : Access} (h : i.access? = some (r, a)) : r.instr a = i := by
  cases i
  all_goals cases h
  all_goals rfl

/-- A well-formed register row has a well-formed access. -/
theorem access_wellFormed {i : Instr} {r : Reg} {a : Access} (h : i.access? = some (r, a))
    (hwf : i.wellFormed = true) : a.wellFormed = true := by
  cases i
  all_goals cases h
  all_goals exact hwf

theorem decodeAccess_sized {dir : Dir} {width : Nat} (args : List Int) (h : width ≠ 16) :
    decodeAccess dir width args = .ok (.sized dir width args) := if_pos h

theorem decodeAccess_poke (v : Word) : decodeAccess .write 16 [(v.toNat : Int)] = .ok (.poke v) := by
  rw [decodeAccess, if_neg (not_not.mpr rfl)]
  simp only [wordOperand_toNat]
  rfl

/-- A packet at a register's offset is the register's row with the access that the packet's width and operands are. -/
theorem decodeRegister_offset {dir : Dir} {p : Packet} {r : Reg} {a : Access} (hcode : p.code = r.offset)
    (haccess : decodeAccess dir p.width p.args = .ok a) : decodeRegister dir p = .ok (r.instr a) := by
  rw [decodeRegister, hcode, regOfCode_offset, haccess]
  rfl

theorem decode_encodeAccess (r : Reg) {a : Access} (hwf : a.wellFormed = true) :
    decode (encodeAccess r a) = .ok (r.instr a) := by
  rcases a with v | _ | ⟨_ | _, width, args⟩
  · exact decodeRegister_offset rfl (decodeAccess_poke v)
  · exact decodeRegister_offset rfl rfl
  all_goals
    have hwidth : width ≠ 16 := bne_iff_ne.mp hwf
    exact decodeRegister_offset rfl (decodeAccess_sized args hwidth)

/-! ### Interface operations (R121) -/

/-- An operation that is no micro-action and no register row is read back from its number and operands. -/
theorem decode_encodeIface {i : Instr} (hmicro : microWord i = none) (haccess : i.access? = none) :
    decode (encodeIface i) = .ok i := by
  cases i
  case schedule x offset kind payload =>
    show (slotOperand x.number >>= fun y => natOperand kind >>= fun k => payloadOperand payload.toNat >>= fun p =>
      pure (Instr.schedule y offset k p)) = _
    rw [slotOperand_number, payloadOperand_toNat]
    rfl
  case cancel x =>
    show (slotOperand x.number >>= fun y => pure (Instr.cancel y)) = _
    rw [slotOperand_number]
    rfl
  case dmaFire payload =>
    show (payloadOperand payload.toNat >>= fun p => pure (Instr.dmaFire p)) = _
    rw [payloadOperand_toNat]
    rfl
  case beamToCycle frame line column => cases frame <;> rfl
  case advanceTo | tick | cycleToBeam | rebuild | hsyncFire | bltStart | bltStepFire | hostPause | hostResume | hostStep |
    hostSnapshot | reset => rfl
  case fetchA | fetchB | fetchC | holdA | holdB | holdD | writeD | loopback | bltidle => cases hmicro
  all_goals cases haccess

/-- Settles O1, by the three kinds of rows: each has its own fields in the packet and its own part of the decoder. -/
theorem decodeEncodeRoundTrip : Obligations.DecodeEncodeRoundTrip := by
  intro i hwf
  unfold encode
  split
  case h_1 u hmicro => rw [decode_uword_packet, decodeUword_microWord hmicro hwf]
  case h_2 r a hmicro haccess => rw [decode_encodeAccess r (access_wellFormed haccess hwf), instr_of_access? haccess]
  case h_3 hmicro haccess => exact decode_encodeIface hmicro haccess

end Sys2Proof

/-! What an operation can do, said once: every operation but RESET is a sequence of elementary changes, each under a label, and
none but the end of a pass and an answer happens after a fault (60_exceptions.md R341, R342). An invariant is then a fact about
the elementary changes. -/

namespace Sys2Proof.Machine

/-! ### The elementary changes -/

/-- The kinds of elementary changes. -/
inductive Label where
  | read | store | notice (n : Notice) | record | raise
  | slot (x : SlotId) | passing | table | tick
  | ptr | modulo | control | latch
  | bltState | bltStart | bltInner
  | reply | pixel | script | paused
  deriving DecidableEq

/-- What the Blitter keeps in a change of its working registers: its state, its program, its pointers and its modulos, and
the ranges of its counters. -/
structure Blitter.InnerChange (b b' : Blitter) : Prop where
  state : b'.state = b.state
  prog  : b'.prog = b.prog
  apt   : b'.apt = b.apt
  bpt   : b'.bpt = b.bpt
  cpt   : b'.cpt = b.cpt
  dpt   : b'.dpt = b.dpt
  amod  : b'.amod = b.amod
  bmod  : b'.bmod = b.bmod
  cmod  : b'.cmod = b.cmod
  dmod  : b'.dmod = b.dmod
  counters : b.CountersOk → b'.CountersOk

/-- The elementary changes, with what their operations check or ensure of the new value. -/
inductive Change : Label → State → State → Prop where
  | read (s : State) (p : PtrId) : Change .read s (s.noteRead (s.ptr p))
  | store (s : State) (a : ChipAddr) (v : Word) : Change .store s (s.storeAt a v)
  | notice (s : State) (n : Notice) : Change (.notice n) s (s.log (.notify n))
  | poke (s : State) (r : Reg) (v : Word) : Change .record s (s.log (.poke r v))
  | peek (s : State) (r : Reg) : Change .record s (s.log (.peek r))
  | dispatch (s : State) (x : SlotId) (k : EventKind) (p : Payload) : Change .record s (s.log (.dispatch x k p))
  | raise (s : State) (f : Fatal) (hf : ∀ x, f ≠ .emptySlotFired x) : Change .raise s (raiseFatal f s)
  | fill (s : State) (x : SlotId) (e : Entry) (hkind : e.kind = slotKind x) (htrigger : s.earliest x ≤ e.trigger) :
      Change (.slot x) s (s.setSlot x (some e))
  | empty (s : State) (x : SlotId) : Change (.slot x) s (s.setSlot x none)
  | passing (s : State) (x : Option SlotId) : Change .passing s (s.setPassing x)
  | table (s : State) (t : List Owner) (hlength : t.length = Config.cols) : Change .table s (s.setTable t)
  | tick (s : State) : Change .tick s (tick s)
  | ptr (s : State) (p : PtrId) (v : Ptr) (hv : ptrOk (s.ptr p) → ptrOk v) : Change .ptr s (s.setPtr p v)
  | modulo (s : State) (m : ModId) (v : Word) (hv : moduloOk v) : Change .modulo s (s.setModulo m v)
  | dmacon (s : State) (v : Word) (hv : s.dmacon &&& Config.dmaconMask = s.dmacon → v &&& Config.dmaconMask = v) :
      Change .control s { s with dmacon := v }
  | ddfstrt (s : State) (v : Word) (hv : v &&& s.cfg.ddfMask = v) : Change .control s { s with ddfstrt := v }
  | ddfstop (s : State) (v : Word) (hv : v &&& s.cfg.ddfMask = v) : Change .control s { s with ddfstop := v }
  | latch (s : State) (b : Vector Word 6) (p : Vector (Vector Word 2) 8) (a : Vector Word 4) (d : Word) :
      Change .latch s { s with bpldat := b, sprdat := p, auddat := a, dskdat := d }
  | bltState (s : State) (st : BltState) : Change .bltState s { s with blt.state := st }
  | bltStart (s : State) (program : List Word) : Change .bltStart s { s with blt := s.blt.started program }
  | bltInner (s : State) (b : Blitter) (h : s.blt.InnerChange b) : Change .bltInner s { s with blt := b }
  | answer (s : State) (r : Reply) : Change .reply s (s.answer r)
  | pixel (s : State) (answers : Pixel) : Change .pixel s { s with pixel := answers }
  | script (s : State) (rest : List (List CollabAct)) (h : ∀ x ∈ rest, x ∈ s.handlers) :
      Change .script s { s with handlers := rest }
  | paused (s : State) (b : Bool) : Change .paused s { s with paused := b }

/-- A change that is admitted: with no fault set, or the end of a pass, or an answer. -/
def Admitted (A : List Label) (s t : State) : Prop :=
  ∃ l ∈ A, (s.fault = none ∨ l = .passing ∨ l = .reply) ∧ Change l s t

/-- A sequence of admitted changes with labels of a list. -/
def Moves (A : List Label) : State → State → Prop := Relation.ReflTransGen (Admitted A)

namespace Moves

variable {A B : List Label} {s t u : State} {l : Label}

theorem refl (s : State) : Moves A s s := Relation.ReflTransGen.refl

theorem trans (h : Moves A s t) (h' : Moves A t u) : Moves A s u := Relation.ReflTransGen.trans h h'

theorem mono (hAB : A ⊆ B) (h : Moves A s t) : Moves B s t :=
  Relation.ReflTransGen.mono (fun _ _ ⟨l, hl, h⟩ => ⟨l, hAB hl, h⟩) _ _ h

/-- One change with no fault set. -/
theorem one (h : Change l s t) (hfault : s.fault = none) (hl : l ∈ A) : Moves A s t :=
  .single ⟨l, hl, .inl hfault, h⟩

/-- One change that happens with a fault set too. -/
theorem free (h : Change l s t) (hfree : l = .passing ∨ l = .reply) (hl : l ∈ A) : Moves A s t :=
  .single ⟨l, hl, .inr hfree, h⟩

/-- A sequence and one more change. -/
theorem snoc (h : Moves A s t) (h' : Change l t u) (hfault : t.fault = none) (hl : l ∈ A) : Moves A s u :=
  h.trans (one h' hfault hl)

/-- What every change with a label of the list keeps, a sequence keeps. -/
theorem ind {P : State → Prop} (h : Moves A s t) (h0 : P s)
    (hstep : ∀ l u v, l ∈ A → (u.fault = none ∨ l = .passing ∨ l = .reply) → Change l u v → P u → P v) : P t := by
  induction h with
  | refl => exact h0
  | tail _ hlast ih =>
    obtain ⟨l, hl, hadmitted, hchange⟩ := hlast
    exact hstep l _ _ hl hadmitted hchange ih

end Moves

/-! ### Sequencing -/

theorem moves_andThen {A : List Label} {f g : State → State} {s : State} (hf : Moves A s (f s))
    (hg : ∀ t, t.fault = none → Moves A t (g t)) : Moves A s (andThen f g s) := by
  rcases andThen_cases f g s with ⟨_, h⟩ | ⟨hrun, h⟩ <;> rw [h]
  · exact hf
  · exact hf.trans (hg _ hrun)

/-- What holds of a state and of what an operation answers from it with no fault set. -/
theorem unlessHalted_ind_run {P : State → Prop} {f : State → State} {s : State} (h0 : P s)
    (hf : s.fault = none → P (f s)) : P (unlessHalted f s) := by
  by_cases h : s.fault = none
  · rw [unlessHalted_run h]; exact hf h
  · rw [unlessHalted_stay h]; exact h0

theorem moves_unlessHalted {A : List Label} {f : State → State} {s : State}
    (hf : s.fault = none → Moves A s (f s)) : Moves A s (unlessHalted f s) :=
  unlessHalted_ind_run (.refl s) hf

/-! ### The scheduler and the allocator -/

theorem scheduleNext_moves (x : SlotId) (offset : Int) (kind : Nat) (payload : Payload) {s : State}
    (h : s.fault = none) : Moves [.raise, .slot x] s (scheduleNext x offset kind payload s) := by
  rcases scheduleNext_cases x offset kind payload s with ⟨_, heq⟩ | ⟨_, _, heq⟩ | ⟨_, htrigger, heq⟩ <;> rw [heq]
  · exact .one (.raise _ _ nofun) h (by simp)
  · exact .one (.raise _ _ nofun) h (by simp)
  · exact .one (.fill _ _ _ rfl (by show _ ≤ Int.toNat _; omega)) h (by simp)

theorem scheduleOwn_moves (x : SlotId) (offset : Nat) (payload : Payload) {s : State} (h : s.fault = none) :
    Moves [.raise, .slot x] s (scheduleOwn x offset payload s) := scheduleNext_moves x _ _ payload h

theorem rebuild_moves {s : State} (h : s.fault = none) : Moves [.raise, .table, .slot .dma] s (rebuild s) := by
  rcases rebuild_cases s with ⟨_, heq⟩ | ⟨_, e, heq, he⟩ <;> rw [heq]
  · exact .one (.raise _ _ nofun) h (by decide)
  · have htable : Moves [.raise, .table, .slot .dma] s (s.setTable s.currentTable) :=
      .one (.table _ _ (ownerTable_length ..)) h (by decide)
    rcases he with ⟨rfl, _⟩ | ⟨c, _, _, htrigger, rfl⟩
    · exact htable.snoc (.empty _ _) h (by decide)
    · exact htable.snoc (.fill _ _ _ rfl htrigger) h (by decide)

/-! ### The Blitter -/

theorem ptrOk_and_ptrMask (p : Ptr) : ptrOk (p &&& Config.ptrMask) := by
  unfold ptrOk
  rw [BitVec.and_assoc, BitVec.and_self]

theorem blitStart_moves {s : State} (h : s.fault = none) :
    Moves [.raise, .bltStart, .slot .blitter] s (blitStart s) := by
  rcases blitStart_cases s with ⟨_, heq⟩ | ⟨_, _, heq⟩ | ⟨_, _, _, heq⟩ | ⟨_, _, _, _, heq⟩ | ⟨_, _, _, program, _, heq⟩
  case inr.inr.inr.inr =>
    rw [heq]
    have hbegun : Moves [.raise, .bltStart, .slot .blitter] s { s with blt := s.blt.started program } :=
      .one (.bltStart s program) h (by decide)
    exact hbegun.trans (.mono (A := [.raise, .slot .blitter]) (by decide) (scheduleOwn_moves _ _ _ h))
  all_goals
    rw [heq]
    exact .one (.raise _ _ nofun) h (by decide)

/-- A change of the Blitter's working registers other than its counters. -/
theorem innerChange_of_counters {b b' : Blitter} (hstate : b'.state = b.state) (hprog : b'.prog = b.prog)
    (hptrs : (b'.apt, b'.bpt, b'.cpt, b'.dpt) = (b.apt, b.bpt, b.cpt, b.dpt))
    (hmods : (b'.amod, b'.bmod, b'.cmod, b'.dmod) = (b.amod, b.bmod, b.cmod, b.dmod))
    (hcounters : (b'.wc, b'.hc, b'.wload) = (b.wc, b.hc, b.wload)) : b.InnerChange b' := by
  simp only [Prod.mk.injEq] at hptrs hmods hcounters
  obtain ⟨hwc, hhc, hwload⟩ := hcounters
  exact ⟨hstate, hprog, hptrs.1, hptrs.2.1, hptrs.2.2.1, hptrs.2.2.2, hmods.1, hmods.2.1, hmods.2.2.1, hmods.2.2.2,
    fun hok => ⟨hwc ▸ hok.wc, hhc ▸ hok.hc, hwload ▸ hok.wload⟩⟩

/-- The labels of the actions of a micro-word without WRITE_D. -/
def actionLabels : List Label := [.read, .ptr, .bltInner]

/-- A read through a Blitter pointer, its advance, and the change of a data register. -/
theorem moves_fetch {s : State} (ch : Channel) (m : Word) (last : Bool) {b : Blitter} (h : s.fault = none)
    (hb : ((s.noteRead (s.ptr (.blt ch))).setPtr (.blt ch) (badv (s.ptr (.blt ch)) m last)).blt.InnerChange b) :
    Moves actionLabels s { (s.noteRead (s.ptr (.blt ch))).setPtr (.blt ch) (badv (s.ptr (.blt ch)) m last) with blt := b } := by
  have hread : Moves actionLabels s (s.noteRead (s.ptr (.blt ch))) := .one (.read s _) h (by decide)
  have hadvanced := hread.snoc (.ptr _ (.blt ch) (badv (s.ptr (.blt ch)) m last) fun _ => ptrOk_and_ptrMask _) h (by decide)
  exact hadvanced.snoc (.bltInner _ b hb) (by rw [setPtr_fault]; exact h) (by decide)

theorem fetchC_moves {s : State} (h : s.fault = none) : Moves actionLabels s (fetchC s) :=
  moves_fetch .c s.blt.cmod s.blt.last h (innerChange_of_counters rfl rfl rfl rfl rfl)

theorem fetchA_moves {s : State} (h : s.fault = none) : Moves actionLabels s (fetchA s) :=
  moves_fetch .a s.blt.amod s.blt.last h (innerChange_of_counters rfl rfl rfl rfl rfl)

theorem fetchB_moves {s : State} (h : s.fault = none) : Moves actionLabels s (fetchB s) :=
  moves_fetch .b s.blt.bmod s.blt.last h (innerChange_of_counters rfl rfl rfl rfl rfl)

theorem holdA_moves {s : State} (h : s.fault = none) : Moves actionLabels s (holdA s) :=
  .one (.bltInner s _ (innerChange_of_counters rfl rfl rfl rfl rfl)) h (by decide)

theorem holdB_moves {s : State} (h : s.fault = none) : Moves actionLabels s (holdB s) :=
  .one (.bltInner s _ (innerChange_of_counters rfl rfl rfl rfl rfl)) h (by decide)

theorem wcLessOne_le {b : Blitter} (h : b.CountersOk) : b.wcLessOne ≤ 64 := by
  have := h.wc
  unfold Blitter.wcLessOne
  split <;> omega

theorem hcLessOne_le {b : Blitter} (h : b.CountersOk) : b.hcLessOne ≤ 1024 := by
  have := h.hc
  unfold Blitter.hcLessOne
  split <;> omega

/-- Counting a word keeps the counters in range, the free values below 0 included (R55, log 11). -/
theorem countWord_innerChange (b : Blitter) : b.InnerChange b.countWord := by
  unfold Blitter.countWord
  split
  · split
    · exact ⟨rfl, rfl, rfl, rfl, rfl, rfl, rfl, rfl, rfl, rfl, fun h => ⟨by simp, by simp, h.wload⟩⟩
    · exact ⟨rfl, rfl, rfl, rfl, rfl, rfl, rfl, rfl, rfl, rfl, fun h => ⟨h.wload, hcLessOne_le h, h.wload⟩⟩
  · exact ⟨rfl, rfl, rfl, rfl, rfl, rfl, rfl, rfl, rfl, rfl, fun h => ⟨wcLessOne_le h, h.hc, h.wload⟩⟩

theorem holdD_moves {s : State} (h : s.fault = none) : Moves actionLabels s (holdD s) := by
  have hheld : Moves actionLabels s { s with blt.dhold := s.blt.combined } :=
    .one (.bltInner s _ (innerChange_of_counters rfl rfl rfl rfl rfl)) h (by decide)
  exact hheld.snoc (.bltInner _ _ (countWord_innerChange _)) h (by decide)

theorem writeD_moves {s : State} (h : s.fault = none) : Moves (.store :: actionLabels) s (writeD s) := by
  have hstored : Moves (.store :: actionLabels) s (s.store s.blt.dpt s.blt.dhold) := .one (.store s _ _) h (by decide)
  exact hstored.snoc (.ptr _ (.blt .d) _ fun _ => ptrOk_and_ptrMask _) h (by decide)

/-- From a state with no fault `f` makes admitted changes and raises none. -/
def Safe (A : List Label) (f : State → State) : Prop :=
  ∀ s, s.fault = none → Moves A s (f s) ∧ (f s).fault = none

theorem Safe.mono {A B : List Label} {f : State → State} (hAB : A ⊆ B) (hf : Safe A f) : Safe B f :=
  fun s h => ⟨(hf s h).1.mono hAB, (hf s h).2⟩

theorem Safe.comp {A : List Label} {f g : State → State} (hf : Safe A f) (hg : Safe A g) : Safe A (f ∘ g) :=
  fun s h => ⟨(hg s h).1.trans (hf _ (hg s h).2).1, (hf _ (hg s h).2).2⟩

theorem safe_whenBit {A : List Label} {f : State → State} (bit : Bool) (hf : bit = true → Safe A f) :
    Safe A (whenBit bit f) := by
  intro s h
  cases bit
  case false => exact ⟨.refl s, h⟩
  case true => exact hf rfl s h

/-- The actions of a micro-word raise no fault, and only WRITE_D among them stores. -/
theorem runActions_safe {A : List Label} {u : Word} (hA : actionLabels ⊆ A) (hstore : u.getLsbD 6 = true → .store ∈ A) :
    Safe A (runActions u) := by
  have hwrite : u.getLsbD 6 = true → Safe A writeD := fun hbit s h =>
    ⟨(writeD_moves h).mono (List.cons_subset.mpr ⟨hstore hbit, hA⟩), h⟩
  have haction {f : State → State} (hf : ∀ {s}, s.fault = none → Moves actionLabels s (f s))
      (hkeep : ∀ s, (f s).fault = s.fault) (bit : Bool) : Safe A (whenBit bit f) :=
    safe_whenBit bit fun _ s h => ⟨(hf h).mono hA, (hkeep s).trans h⟩
  exact (safe_whenBit _ hwrite).comp <| (haction holdD_moves (fun _ => rfl) _).comp <|
    (haction holdB_moves (fun _ => rfl) _).comp <| (haction holdA_moves (fun _ => rfl) _).comp <|
    (haction fetchB_moves (fun _ => rfl) _).comp <| (haction fetchA_moves (fun _ => rfl) _).comp <|
    haction fetchC_moves (fun _ => rfl) _

theorem upc_moves {s : State} (upc : BitVec 6) (h : s.fault = none) :
    Moves [.raise, .bltInner] s { s with blt.upc := upc } :=
  .one (.bltInner s _ (innerChange_of_counters rfl rfl rfl rfl rfl)) h (by decide)

theorem loopBack_moves (n : BitVec 6) (actions : BitVec 7) {s : State} (h : s.fault = none) :
    Moves [.raise, .bltInner] s (loopBack n actions s) := by
  unfold loopBack
  split
  · exact .one (.raise _ _ nofun) h (by decide)
  · exact upc_moves _ h

theorem stepUpc_moves {s : State} (h : s.fault = none) : Moves [.raise, .bltInner] s (stepUpc s) := by
  unfold stepUpc
  split
  · exact .one (.raise _ _ nofun) h (by decide)
  · exact upc_moves _ h

theorem advanceMicro_moves (u : Word) {s : State} (h : s.fault = none) :
    Moves [.raise, .bltInner] s (advanceMicro u s) := by
  unfold advanceMicro
  split
  · exact loopBack_moves _ _ h
  · exact stepUpc_moves h

/-- The labels of a Blitter step whose word has no WRITE_D. -/
def bltStepLabels : List Label := [.read, .ptr, .bltInner, .bltState, .raise, .slot .blitter]

theorem finishStep_moves (u : Word) {s : State} (h : s.fault = none) : Moves bltStepLabels s (finishStep u s) := by
  cases hdone : s.blt.done
  case true =>
    rw [finishStep_of_done u hdone]
    exact .one (.bltState s _) h (by decide)
  case false =>
    rw [finishStep_of_not_done u hdone]
    exact moves_andThen ((advanceMicro_moves u h).mono (by decide)) fun t ht =>
      (scheduleOwn_moves SlotId.blitter 1 0 ht).mono (by decide)

/-- A step stores only where its word has WRITE_D. -/
theorem bltStep_moves {A : List Label} {s : State} (hA : bltStepLabels ⊆ A)
    (hstore : ∀ u, s.blt.currentWord = some u → illegalMicro u = false → u.getLsbD 6 = true → .store ∈ A)
    (h : s.fault = none) : Moves A s (bltStep s) := by
  have hrunning : Moves A s { s with blt.state := .running } := .one (.bltState s _) h (hA (by decide))
  rcases bltStep_cases s with ⟨_, heq⟩ | ⟨u, _, _, heq⟩ | ⟨u, hword, hlegal, heq⟩ <;> rw [heq]
  case inr.inr =>
    have hlatched : Moves A s { s with blt := { s.blt with state := .running }.latchStep } :=
      hrunning.snoc (.bltInner _ _ (innerChange_of_counters rfl rfl rfl rfl rfl)) h (hA (by decide))
    obtain ⟨hactions, hrun⟩ := runActions_safe (fun l hl => hA ((by decide : actionLabels ⊆ bltStepLabels) hl))
      (hstore u hword hlegal) { s with blt := { s.blt with state := .running }.latchStep } h
    exact (hlatched.trans hactions).trans ((finishStep_moves u hrun).mono hA)
  all_goals exact hrunning.snoc (.raise _ _ nofun) h (hA (by decide))

/-! ### The DMA Dispatcher -/

theorem fetchThrough_moves (p : PtrId) (m : Word) {s : State} (h : s.fault = none) :
    Moves [.read, .ptr] s (s.fetchThrough p m) := by
  have hread : Moves [.read, .ptr] s (s.noteRead (s.ptr p)) := .one (.read s p) h (by decide)
  exact hread.snoc (.ptr _ p _ fun _ => ptrOk_and_ptrMask _) h (by decide)

/-- The labels of DMA_FIRE. -/
def dmaLabels : List Label := [.read, .ptr, .latch, .notice .plane1Data, .raise, .slot .dma]

theorem transfer_moves (o : Owner) (c : Nat) {s : State} (h : s.fault = none) : Moves dmaLabels s (transfer o c s) := by
  have hfetch (p : PtrId) (m : Word) : Moves dmaLabels s (s.fetchThrough p m) :=
    (fetchThrough_moves p m h).mono (by decide)
  have hlatch {p : PtrId} {m : Word} (b : Vector Word 6) (q : Vector (Vector Word 2) 8) (a : Vector Word 4) (d : Word) :
      Moves dmaLabels s { s.fetchThrough p m with bpldat := b, sprdat := q, auddat := a, dskdat := d } :=
    (hfetch p m).snoc (.latch _ b q a d) (by rw [fetchThrough_fault]; exact h) (by decide)
  cases o with
  | none => exact .one (.raise _ _ nofun) h (by decide)
  | disk => exact hlatch ..
  | aud n => exact hlatch ..
  | spr n k => exact hlatch ..
  | bpl p =>
    have hlatched : Moves dmaLabels s { s.fetchThrough (.bpl p) (s.fetchModulo p c) with
        bpldat := s.bpldat.set p (s.wordAt s.bplpt[p]) } := hlatch ..
    have hrun : (s.fetchThrough (.bpl p) (s.fetchModulo p c)).fault = none := by rw [fetchThrough_fault, h]
    by_cases hp : p = 0
    · rw [transfer, bplFetch, if_pos hp]
      exact hlatched.snoc (.notice _ .plane1Data) hrun (by decide)
    · rw [transfer, bplFetch, if_neg hp]
      exact hlatched

theorem nextColumn_moves {s : State} (h : s.fault = none) : Moves [.raise, .slot .dma] s (nextColumn s) := by
  unfold nextColumn
  split
  · exact scheduleNext_moves .dma _ _ _ h
  · exact .one (.empty s _) h (by decide)

theorem dmaFire_moves (payload : Payload) {s : State} (h : s.fault = none) : Moves dmaLabels s (dmaFire payload s) :=
  moves_andThen (transfer_moves _ _ h) fun _ ht => (nextColumn_moves ht).mono (by decide)

/-! ### Register accesses -/

/-- The labels of a poke that only stores its register or is refused. -/
def plainPokeLabels : List Label := [.raise, .ptr, .modulo, .bltInner]

/-- The labels of a poke. -/
def pokeLabels : List Label :=
  plainPokeLabels ++ ([.control, .table, .slot .dma, .bltStart, .bltState, .slot .blitter] : List Label)

/-- The labels of a register access. -/
def accessLabels : List Label :=
  pokeLabels ++ ([.record, .reply] : List Label)

/-- Bits of a word that a mask keeps stay within the mask. -/
theorem setClear_masked {old : Word} (v : Word) (h : old &&& Config.dmaconMask = old) :
    setClear old v &&& Config.dmaconMask = setClear old v := by
  have hbit (i : Nat) : (old.getLsbD i && Config.dmaconMask.getLsbD i) = old.getLsbD i := by rw [← BitVec.getLsbD_and, h]
  unfold setClear
  apply BitVec.eq_of_getLsbD_eq
  intro i hi
  split
  · rw [BitVec.getLsbD_and, BitVec.getLsbD_or, BitVec.getLsbD_and, Bool.and_or_distrib_right, hbit, Bool.and_assoc, Bool.and_self]
  · rw [BitVec.getLsbD_and, BitVec.getLsbD_and, Bool.and_right_comm, hbit]

/-- The labels of the store of dmacon and of the abort that it can entail. -/
def storeDmaconLabels : List Label := [.control, .slot .blitter, .bltState]

theorem storeDmacon_moves (v : Word) {s : State} (h : s.fault = none) :
    Moves storeDmaconLabels s (storeDmacon v s) ∧ (storeDmacon v s).fault = none := by
  have hstored : Moves storeDmaconLabels s { s with dmacon := setClear s.dmacon v } :=
    .one (.dmacon s _ (setClear_masked v)) h (by decide)
  unfold storeDmacon
  split
  · refine ⟨?_, h⟩
    exact (hstored.snoc (.empty _ .blitter) h (by decide)).snoc (.bltState _ .idle) h (by decide)
  · exact ⟨hstored, h⟩

/-- The bits that the reduction of R95 keeps. -/
theorem ptrMask_getLsbD {i : Nat} (hi : i < 32) : Config.ptrMask.getLsbD i = decide (1 ≤ i ∧ i < 19) := by
  have h : ∀ j : Fin 32, Config.ptrMask.getLsbD j.val = decide (1 ≤ j.val ∧ j.val < 19) := by decide
  exact h ⟨i, hi⟩

/-- A pointer is an even 19-bit value exactly when no other bit is set. -/
theorem ptrOk_iff (p : Ptr) : ptrOk p ↔ ∀ i, i < 32 → p.getLsbD i = true → 1 ≤ i ∧ i < 19 := by
  unfold ptrOk
  constructor
  · intro h i hi hbit
    rw [← h, BitVec.getLsbD_and, ptrMask_getLsbD hi, Bool.and_eq_true] at hbit
    exact of_decide_eq_true hbit.2
  · intro h
    apply BitVec.eq_of_getLsbD_eq
    intro i hi
    rw [BitVec.getLsbD_and, ptrMask_getLsbD hi]
    cases hbit : p.getLsbD i
    · rfl
    · simp [h i hi hbit]

theorem pthMask_getLsbD {i : Nat} (hi : i < 16) : Config.pthMask.getLsbD i = decide (i < 3) := by
  have h : ∀ j : Fin 16, Config.pthMask.getLsbD j.val = decide (j.val < 3) := by decide
  exact h ⟨i, hi⟩

theorem ptlMask_getLsbD {i : Nat} (hi : i < 16) : Config.ptlMask.getLsbD i = decide (1 ≤ i) := by
  have h : ∀ j : Fin 16, Config.ptlMask.getLsbD j.val = decide (1 ≤ j.val) := by decide
  exact h ⟨i, hi⟩

/-- A high-word poke puts three bits above bit 15 and keeps the old low word (R294). -/
theorem withHighWord_ok {p : Ptr} (v : Word) (h : ptrOk p) : ptrOk (withHighWord p v) := by
  rw [ptrOk_iff] at h ⊢
  intro i hi hbit
  simp only [withHighWord, zext32, BitVec.getLsbD_or, BitVec.getLsbD_and, BitVec.getLsbD_shiftLeft,
    BitVec.truncate_eq_setWidth, BitVec.getLsbD_setWidth, Bool.or_eq_true, Bool.and_eq_true, decide_eq_true_eq,
    Bool.not_eq_true', decide_eq_false_iff_not] at hbit
  rcases hbit with ⟨⟨_, hhigh⟩, _, _, hmask⟩ | ⟨hlow, _⟩
  · rw [pthMask_getLsbD (by omega), decide_eq_true_eq] at hmask
    omega
  · exact h i hi hlow

/-- A low-word poke keeps the old high word and clears bit 0 (R295). -/
theorem withLowWord_ok {p : Ptr} (v : Word) (h : ptrOk p) : ptrOk (withLowWord p v) := by
  rw [ptrOk_iff] at h ⊢
  intro i hi hbit
  simp only [withLowWord, zext32, BitVec.getLsbD_or, BitVec.getLsbD_and, BitVec.truncate_eq_setWidth,
    BitVec.getLsbD_setWidth, Bool.or_eq_true, Bool.and_eq_true, decide_eq_true_eq] at hbit
  rcases hbit with ⟨hhigh, _⟩ | ⟨_, hlow, hmask⟩
  · exact h i hi hhigh
  · have hlt : i < 16 := BitVec.lt_of_getLsbD hlow
    rw [ptlMask_getLsbD hlt, decide_eq_true_eq] at hmask
    omega

theorem moduloOk_moduloOf (v : Word) : moduloOk (moduloOf v) := by
  unfold moduloOk moduloOf
  rw [BitVec.and_assoc, BitVec.and_self]

theorem pokeBltcon0_moves (v : Word) {s : State} (h : s.fault = none) :
    Moves plainPokeLabels s (pokeBltcon0 v s) := by
  unfold pokeBltcon0
  split
  · exact .one (.raise _ _ nofun) h (by decide)
  · exact .one (.bltInner s _ (innerChange_of_counters rfl rfl rfl rfl rfl)) h (by decide)

/-- A poke is a plain one, or rebuilds after storing the fetch window or dmacon, or starts a transfer of a stored size. -/
theorem pokeReg_cases (r : Reg) (v : Word) {s : State} (h : s.fault = none) :
    Moves plainPokeLabels s (pokeReg r v s) ∨
    (∃ t, Moves [.control] s t ∧ t.fault = none ∧ pokeReg r v s = rebuild t) ∨
    pokeReg r v s = rebuild (storeDmacon v s) ∨
    (∃ t, Moves [.bltInner] s t ∧ t.fault = none ∧ pokeReg r v s = blitStart t) := by
  have hinner {b : Blitter} (hb : s.blt.InnerChange b) : Moves plainPokeLabels s { s with blt := b } :=
    .one (.bltInner s b hb) h (by decide)
  cases r with
  | vposr | vhposr => exact .inl (.one (.raise _ _ nofun) h (by decide))
  | pth p => exact .inl (.one (.ptr s p _ (withHighWord_ok v)) h (by decide))
  | ptl p => exact .inl (.one (.ptr s p _ (withLowWord_ok v)) h (by decide))
  | mod m => exact .inl (.one (.modulo s m _ (moduloOk_moduloOf v)) h (by decide))
  | bltcon0 => exact .inl (pokeBltcon0_moves v h)
  | bltcon1 | bltafwm | bltalwm => exact .inl (hinner (innerChange_of_counters rfl rfl rfl rfl rfl))
  | bltsize =>
    exact .inr (.inr (.inr ⟨{ s with blt.bltsize := v }, .one (.bltInner s _ (innerChange_of_counters rfl rfl rfl rfl rfl)) h (by decide), h, rfl⟩))
  | dmacon => exact .inr (.inr (.inl rfl))
  | ddfstrt =>
    exact .inr (.inl ⟨_, .one (.ddfstrt s (ddfOf s.cfg v) (by rw [ddfOf, BitVec.and_assoc, BitVec.and_self])) h (by decide),
      h, rfl⟩)
  | ddfstop =>
    exact .inr (.inl ⟨_, .one (.ddfstop s (ddfOf s.cfg v) (by rw [ddfOf, BitVec.and_assoc, BitVec.and_self])) h (by decide),
      h, rfl⟩)

theorem pokeReg_moves (r : Reg) (v : Word) {s : State} (h : s.fault = none) : Moves pokeLabels s (pokeReg r v s) := by
  rcases pokeReg_cases r v h with hplain | ⟨t, hstored, hrun, heq⟩ | heq | ⟨t, hstored, hrun, heq⟩
  · exact hplain.mono (by decide)
  · exact heq ▸ (hstored.mono (by decide)).trans (.mono (A := [.raise, .table, .slot .dma]) (by decide) (rebuild_moves hrun))
  · obtain ⟨hstored, hrun⟩ := storeDmacon_moves v h
    exact heq ▸ (hstored.mono (by decide)).trans (.mono (A := [.raise, .table, .slot .dma]) (by decide) (rebuild_moves hrun))
  · exact heq ▸ (hstored.mono (by decide)).trans
      (.mono (A := [.raise, .bltStart, .slot .blitter]) (by decide) (blitStart_moves hrun))

theorem peekReg_moves (r : Reg) {s : State} (h : s.fault = none) : Moves [.raise, .reply] s (peekReg r s) := by
  cases r with
  | vposr | vhposr => exact .one (.answer s _) h (by decide)
  | _ => exact .one (.raise _ _ nofun) h (by decide)

theorem accessReg_moves (r : Reg) (a : Access) {s : State} (h : s.fault = none) :
    Moves accessLabels s (accessReg r a s) := by
  cases a with
  | sized dir width operands => exact .one (.raise _ _ nofun) h (by decide)
  | peek =>
    have hnoted : Moves accessLabels s (s.log (.peek r)) := .one (.peek s r) h (by decide)
    exact hnoted.trans (.mono (A := [.raise, .reply]) (by decide) (peekReg_moves r h))
  | poke v =>
    have hnoted : Moves accessLabels s (s.log (.poke r v)) := .one (.poke s r v) h (by decide)
    exact hnoted.trans (.mono (A := pokeLabels) (by decide) (pokeReg_moves r v h))

/-! ### HSYNC and the collaborators' handlers -/

theorem lineEndNotices_moves {s : State} (h : s.fault = none) :
    Moves [.notice .line, .notice .frame] s (lineEndNotices s) := by
  have hline : Moves [.notice .line, .notice .frame] s (s.log (.notify .line)) := .one (.notice s _) h (by decide)
  unfold lineEndNotices
  repeat' split
  · exact hline.snoc (.notice _ .frame) h (by decide)
  · exact hline
  · exact .refl s

/-- The labels of HSYNC_FIRE. -/
def hsyncLabels : List Label := [.notice .line, .notice .frame, .raise, .table, .slot .dma, .slot .raster]

theorem hsync_moves {s : State} (h : s.fault = none) : Moves hsyncLabels s (hsync s) := by
  have hnoticed : (lineEndNotices s).fault = none := by rw [lineEndNotices_fault, h]
  have hended : Moves hsyncLabels s (lineEndNotices s) := (lineEndNotices_moves h).mono (by decide)
  exact hended.trans <| moves_andThen ((rebuild_moves hnoticed).mono (by decide)) fun t ht =>
    (scheduleOwn_moves SlotId.raster Config.cols 0 ht).mono (by decide)

/-- The labels of a conforming handler's actions: it calls the scheduler on the collaborators' slots. -/
def collabLabels : List Label :=
  accessLabels ++ ([.slot .copper, .slot .disk, .slot .ciaa, .slot .ciab, .slot .inspection, .pixel, .store] : List Label)

theorem slot_mem_collabLabels {x : SlotId} (hx : collaboratorSlot x = true) : Label.slot x ∈ collabLabels := by
  cases x
  case raster | dma | blitter => cases hx
  all_goals decide

/-- The label of a scheduler call is among the conforming ones when the call is, and is there in any case beside them. -/
theorem runCollabAct_moves {A : List Label} {act : CollabAct} (hA : collabLabels ⊆ A)
    (hslots : act.conforming = true ∨ ∀ x, Label.slot x ∈ A) {s : State} (h : s.fault = none) :
    Moves A s (runCollabAct act s) := by
  have hslot {x : SlotId} (hx : collaboratorSlot x = true ∨ ∀ x, Label.slot x ∈ A) : Label.slot x ∈ A := by
    rcases hx with hx | hx
    · exact hA (slot_mem_collabLabels hx)
    · exact hx x
  cases act with
  | schedule x offset kind payload =>
    refine (scheduleNext_moves x offset kind payload h).mono ?_
    simpa using ⟨hA (by decide), hslot hslots⟩
  | cancel x => exact .one (.empty s x) h (hslot hslots)
  | access r a => exact (accessReg_moves r a h).mono fun l hl => hA (List.mem_append_left _ hl)
  | pixel answers => exact .one (.pixel s answers) h (hA (by decide))
  | write a v => exact .one (.store s a v) h (hA (by decide))

theorem runScript_moves {A : List Label} (hA : collabLabels ⊆ A) {script : List CollabAct}
    (hslots : (∀ act ∈ script, act.conforming = true) ∨ ∀ x, Label.slot x ∈ A) :
    ∀ {s : State}, s.fault = none → Moves A s (runScript script s) := by
  induction script with
  | nil => exact fun {s} _ => .refl s
  | cons act rest ih =>
    intro s h
    have hact : act.conforming = true ∨ ∀ x, Label.slot x ∈ A := hslots.imp_left fun hc => hc act List.mem_cons_self
    exact moves_andThen (runCollabAct_moves hA hact h) fun t ht =>
      ih (hslots.imp_left fun hc a ha => hc a (List.mem_cons_of_mem _ ha)) ht

theorem collabHandler_moves {A : List Label} (hA : collabLabels ⊆ A) (hscript : .script ∈ A) {s : State}
    (hslots : (∀ script ∈ s.handlers, ∀ act ∈ script, act.conforming = true) ∨ ∀ x, Label.slot x ∈ A)
    (h : s.fault = none) : Moves A s (collabHandler s) := by
  unfold collabHandler
  split
  · exact .refl s
  · rename_i script rest hhandlers
    have htaken : Moves A s { s with handlers := rest } :=
      .one (.script s rest fun x hx => hhandlers ▸ List.mem_cons_of_mem _ hx) h hscript
    exact htaken.trans <| runScript_moves hA
      (hslots.imp_left fun hc => hc script (hhandlers ▸ List.mem_cons_self)) h

/-! ### The pass and the cycles -/

/-- The labels of the operations that run no cycle and store nothing. -/
def instantLabels : List Label :=
  [.read, .notice .line, .notice .frame, .notice .plane1Data, .record, .raise, .slot .raster, .slot .dma, .slot .blitter,
    .slot .copper, .slot .disk, .slot .ciaa, .slot .ciab, .slot .inspection, .table, .ptr, .modulo, .control, .latch,
    .bltState, .bltStart, .bltInner, .reply, .paused]

/-- The labels of a handler. -/
def handlerLabels : List Label :=
  instantLabels ++ ([.store, .pixel, .script] : List Label)

/-- The labels of a slot's turn. -/
def turnLabels : List Label :=
  handlerLabels ++ ([.passing] : List Label)

/-- Every label. -/
def Label.all : List Label :=
  turnLabels ++ ([.tick] : List Label)

theorem slot_mem_instantLabels (x : SlotId) : Label.slot x ∈ instantLabels := by cases x <;> decide

theorem slot_mem_handlerLabels (x : SlotId) : Label.slot x ∈ handlerLabels :=
  List.mem_append_left _ (slot_mem_instantLabels x)

theorem slot_mem_turnLabels (x : SlotId) : Label.slot x ∈ turnLabels := List.mem_append_left _ (slot_mem_handlerLabels x)

/-- A handler is fatal on an entry of a foreign kind, and else is its slot's (R148). -/
theorem handler_cases (x : SlotId) (e : Entry) (s : State) :
    (e.kind ≠ slotKind x ∧ handler x e s = raiseFatal (.invalidEventKind x e.kind.code) s) ∨
      (x = .raster ∧ handler x e s = hsync s) ∨ (x = .dma ∧ handler x e s = dmaFire e.payload s) ∨
      (x = .blitter ∧ handler x e s = bltStep s) ∨ (collaboratorSlot x = true ∧ handler x e s = collabHandler s) := by
  unfold handler
  split
  case isTrue hkind => exact .inl ⟨hkind, rfl⟩
  case isFalse => cases x <;> simp [collaboratorSlot]

theorem handler_moves (x : SlotId) (e : Entry) {s : State} (h : s.fault = none) :
    Moves handlerLabels s (handler x e s) := by
  rcases handler_cases x e s with ⟨_, heq⟩ | ⟨_, heq⟩ | ⟨_, heq⟩ | ⟨_, heq⟩ | ⟨_, heq⟩ <;> rw [heq]
  · exact .one (.raise _ _ nofun) h (by decide)
  · exact (hsync_moves h).mono (by decide)
  · exact (dmaFire_moves _ h).mono (by decide)
  · exact bltStep_moves (by decide) (fun _ _ _ _ => by decide) h
  · exact collabHandler_moves (by decide) (by decide) (.inr slot_mem_handlerLabels) h

/-- The start of a handler's turn: the entry is cleared, the slot is passing, the dispatch is recorded (R146). -/
theorem dispatched_moves (x : SlotId) (e : Entry) {s : State} (h : s.fault = none) :
    Moves [.slot x, .passing, .record] s (s.dispatched x e) := by
  have hcleared : Moves [.slot x, .passing, .record] s (s.setSlot x none) := .one (.empty s x) h (by simp)
  have hpassing := hcleared.snoc (.passing _ (some x)) h (by simp)
  exact hpassing.snoc (.dispatch _ x e.kind e.payload) h (by simp)

theorem dispatchSlot_moves (x : SlotId) {s : State} (h : s.fault = none) : Moves turnLabels s (dispatchSlot x s) := by
  unfold dispatchSlot
  split
  · exact .refl s
  · have hstart : [.slot x, .passing, .record] ⊆ turnLabels := by
      rw [List.cons_subset]
      exact ⟨slot_mem_turnLabels x, by decide⟩
    exact ((dispatched_moves x _ h).mono hstart).trans (.mono (A := handlerLabels) (by decide) (handler_moves x _ h))

theorem passSlots_moves (xs : List SlotId) : ∀ {s : State}, s.fault = none → Moves turnLabels s (passSlots xs s) := by
  induction xs with
  | nil => exact fun {s} _ => .refl s
  | cons x rest ih => exact fun {s} h => moves_andThen (dispatchSlot_moves x h) fun t ht => ih ht

theorem pass_moves {s : State} (h : s.fault = none) : Moves turnLabels s (pass s) :=
  (passSlots_moves s.cfg.slots h).trans (.free (.passing _ none) (.inl rfl) (by decide))

theorem runCycles_moves (n : Nat) : ∀ {s : State}, s.fault = none → Moves Label.all s (runCycles n s) := by
  induction n with
  | zero => exact fun {s} _ => .refl s
  | succ n ih =>
    intro s h
    refine moves_andThen ((pass_moves h).mono (by decide)) fun t ht => ?_
    exact (Moves.one (.tick t) ht (by decide)).trans (ih (by rw [tick_fault, ht]))

/-! ### The operations -/

/-- The labels of an operation. -/
def opLabels : Instr → List Label
  | .advanceTo _ | .hostStep => Label.all
  | .tick => [.tick]
  | .writeD | .bltStepFire => .store :: instantLabels
  | _ => instantLabels

theorem atBoundary_moves {A : List Label} {f : State → State} {s : State} (hf : Moves A s (f s)) :
    Moves A s (atBoundary f s) := atBoundary_ind (.refl s) hf

/-- Every operation but RESET is a sequence of admitted changes with its labels. -/
theorem exec_moves {i : Instr} {s t : State} (hreset : i ≠ .reset) (hexec : exec i s = .next t) :
    Moves (opLabels i) s t := by
  have hop {f : State → State} {u : State} (hu : unlessHalted f s = u)
      (hf : s.fault = none → Moves (opLabels i) s (f s)) : Moves (opLabels i) s u := hu ▸ moves_unlessHalted hf
  have haccess (r : Reg) (a : Access) (h : s.fault = none) : Moves instantLabels s (accessReg r a s) :=
    (accessReg_moves r a h).mono (by decide)
  have haction {f : State → State} (hf : s.fault = none → Moves actionLabels s (f s)) (h : s.fault = none) :
      Moves instantLabels s (f s) := (hf h).mono (by decide)
  have hanswer (r : Reply) : Moves instantLabels s (s.answer r) := .free (.answer s r) (.inr rfl) (by decide)
  cases i
  all_goals have hnext := Host.Outcome.next.inj hexec
  case reset => exact absurd rfl hreset
  case fetchA => exact hop hnext (haction fetchA_moves)
  case fetchB => exact hop hnext (haction fetchB_moves)
  case fetchC => exact hop hnext (haction fetchC_moves)
  case holdA => exact hop hnext (haction holdA_moves)
  case holdB => exact hop hnext (haction holdB_moves)
  case holdD => exact hop hnext (haction holdD_moves)
  case writeD => exact hop hnext fun h => (writeD_moves h).mono (by decide)
  case loopback n actions =>
    exact hop hnext fun h => (loopBack_moves n actions h).mono (by decide : _ ⊆ instantLabels)
  case bltidle => exact hop hnext fun h => (stepUpc_moves h).mono (by decide)
  case schedule x offset kind payload =>
    refine hop hnext fun h => (scheduleNext_moves x offset kind payload h).mono ?_
    exact List.cons_subset.mpr ⟨(by decide : _ ∈ instantLabels),
      List.cons_subset.mpr ⟨slot_mem_instantLabels x, List.nil_subset _⟩⟩
  case cancel x => exact hop hnext fun h => .one (.empty s x) h (slot_mem_instantLabels x)
  case advanceTo target => exact hop hnext (runCycles_moves _)
  case tick => exact hop hnext fun h => .one (.tick s) h (by decide)
  case beamToCycle => exact hop hnext fun _ => hanswer _
  case cycleToBeam => exact hop hnext fun _ => hanswer _
  case rebuild => exact hop hnext fun h => (rebuild_moves h).mono (by decide)
  case dmaFire payload => exact hop hnext fun h => (dmaFire_moves payload h).mono (by decide : _ ⊆ instantLabels)
  case hsyncFire => exact hop hnext fun h => (hsync_moves h).mono (by decide)
  case bltStart => exact hop hnext fun h => (blitStart_moves h).mono (by decide)
  case bltStepFire => exact hop hnext (bltStep_moves (by decide) fun _ _ _ _ => by decide)
  case hostPause | hostResume => exact hop hnext fun h => atBoundary_moves (.one (.paused s _) h (by decide))
  case hostStep => exact hop hnext fun h => atBoundary_moves (runCycles_moves _ h)
  case hostSnapshot => exact hnext ▸ atBoundary_moves (hanswer _)
  all_goals exact hop hnext (haccess _ _)

end Sys2Proof.Machine

/-! What every operation keeps: the invariant of 10_state.md, the fault register and its record, and the clock. -/

namespace Sys2Proof.Machine

/-- A tick moves the clock and the beam and nothing else. -/
theorem tick_eq (s : State) : tick s = { s with
    clock := s.clock + 1, frame := (tick s).frame, line := (tick s).line, column := (tick s).column } := by
  unfold tick
  repeat' split
  all_goals rfl

/-! ### The fault register (60_exceptions.md R342) -/

/-- Only a raise writes the fault register. -/
theorem Change.fault_eq {l : Label} {s t : State} (h : Change l s t) (hl : l ≠ .raise) : t.fault = s.fault := by
  cases h with
  | raise _ f => exact absurd rfl hl
  | tick => exact tick_fault s
  | ptr _ p v => exact setPtr_fault ..
  | modulo _ m v => exact setModulo_fault ..
  | _ => rfl

/-- Settles O17: the faults that operations raise are others, and nothing but a raise writes the register. -/
theorem emptySlotNeverFires : Obligations.EmptySlotNeverFires := by
  intro i s t x h0 hexec
  by_cases hreset : i = .reset
  · subst hreset
    obtain rfl : atBoundary State.resetCore s = t := Host.Outcome.next.inj hexec
    exact atBoundary_ind (P := fun u => u.fault ≠ some (.emptySlotFired x)) h0 (by simp [Core.reset])
  refine (exec_moves hreset hexec).ind (P := fun u => u.fault ≠ some (.emptySlotFired x)) h0 fun l u v _ _ hchange hu => ?_
  by_cases hl : l = .raise
  · subst hl
    cases hchange with
    | raise _ f hf =>
      rw [raiseFatal_fault]
      split
      · simpa using hf x
      · exact hu
  · rw [hchange.fault_eq hl]; exact hu

/-- The record of the fault that is set is the last, at the present clock. -/
def State.FaultRecordLast (s : State) : Prop :=
  ∀ f, s.fault = some f → s.history.getLast? = some ⟨s.clock, .fault f⟩

theorem faultRecordLast_of_no_fault {s : State} (h : s.fault = none) : s.FaultRecordLast :=
  fun f hf => by rw [h] at hf; cases hf

/-- An admitted change raises the fault and records it, or keeps the state free of faults, or leaves the history. -/
theorem Change.faultRecordLast {l : Label} {s t : State} (h : Change l s t)
    (hadmitted : s.fault = none ∨ l = .passing ∨ l = .reply) (hs : s.FaultRecordLast) : t.FaultRecordLast := by
  by_cases hl : l = .raise
  · subst hl
    obtain hfault : s.fault = none := by simpa using hadmitted
    cases h with
    | raise _ f hf =>
      rw [raiseFatal_eq f hfault]
      intro g hg
      cases hg
      exact List.getLast?_concat
  · rcases hadmitted with hfault | rfl | rfl
    · exact faultRecordLast_of_no_fault ((h.fault_eq hl).trans hfault)
    · cases h; exact hs
    · cases h; exact hs

/-- Settles O54: once a fault is set only the end of a pass and an answer follow, which record nothing. -/
theorem faultRecordIsTheLast : Obligations.FaultRecordIsTheLast := by
  intro i s t f hfault hexec ht
  by_cases hreset : i = .reset
  · subst hreset
    obtain rfl : atBoundary State.resetCore s = t := Host.Outcome.next.inj hexec
    exact atBoundary_ind (P := State.FaultRecordLast) (faultRecordLast_of_no_fault hfault)
      (faultRecordLast_of_no_fault rfl) f ht
  · exact (exec_moves hreset hexec).ind (P := State.FaultRecordLast) (faultRecordLast_of_no_fault hfault)
      (fun l u v _ hadmitted hchange hu => hchange.faultRecordLast hadmitted hu) f ht

/-! ### The clock and the beam (10_state.md R30, 40_event_scheduler.md R152) -/

theorem beam_of_cyclePart {s t : State} (h : t.cyclePart = s.cyclePart) :
    t.clock = s.clock ∧ t.frame = s.frame ∧ t.line = s.line ∧ t.column = s.column :=
  ⟨congrArg CyclePart.clock h, congrArg CyclePart.frame h, congrArg CyclePart.line h, congrArg CyclePart.column h⟩

/-- Only a tick writes the clock and the beam. -/
theorem Change.cyclePart_eq {l : Label} {s t : State} (h : Change l s t) (hl : l ≠ .tick) :
    t.cyclePart = s.cyclePart := by
  cases h with
  | tick => exact absurd rfl hl
  | ptr _ p v => exact setPtr_cyclePart ..
  | modulo _ m v => exact setModulo_cyclePart ..
  | _ => rfl

theorem Moves.cyclePart_eq {A : List Label} {s t : State} (h : Moves A s t) (hA : .tick ∉ A) :
    t.cyclePart = s.cyclePart :=
  h.ind (P := fun u => u.cyclePart = s.cyclePart) rfl fun _ _ _ hl _ hchange hu =>
    (hchange.cyclePart_eq (fun htick => hA (htick ▸ hl))).trans hu

theorem Change.clock_le {l : Label} {s t : State} (h : Change l s t) : s.clock ≤ t.clock := by
  by_cases hl : l = .tick
  · subst hl
    cases h
    rw [tick_clock]
    exact Nat.le_succ _
  · exact (clock_of_cyclePart (h.cyclePart_eq hl)).ge

/-- The operations that run no cycle have no tick among their changes. -/
theorem tick_notMem_opLabels {i : Instr} (htick : i ≠ .tick) (hstep : i ≠ .hostStep)
    (hadvance : ∀ target, i ≠ .advanceTo target) : .tick ∉ opLabels i := by
  unfold opLabels
  split
  · exact absurd rfl (hadvance _)
  · exact absurd rfl hstep
  · exact absurd rfl htick
  all_goals decide

/-- Settles O55: a tick alone among the changes writes the clock and the beam, and it adds to the clock. -/
theorem onlyTicksMoveTheClock : Obligations.OnlyTicksMoveTheClock := by
  intro i s t hexec hreset
  have hmoves := exec_moves hreset hexec
  refine ⟨hmoves.ind (P := fun u => s.clock ≤ u.clock) le_rfl fun _ _ _ _ _ hchange hu => hu.trans hchange.clock_le,
    fun htick hstep hadvance => ?_⟩
  exact beam_of_cyclePart (hmoves.cyclePart_eq (tick_notMem_opLabels htick hstep hadvance))

/-! ### The invariant -/

/-- The invariant of a state, within a pass too: `State.Inv` but for the pass. -/
structure State.Sound (s : State) : Prop where
  mem       : s.mem.wf = true
  registers : s.RegistersOk
  beam      : s.BeamOk
  tables    : s.TablesOk
  kinds     : s.KindsOk
  counters  : s.blt.CountersOk
  order     : s.cfg.OrderOk

theorem State.Inv.sound {s : State} (h : s.Inv) : s.Sound :=
  ⟨h.mem, h.registers, h.beam, h.tables, h.kinds, h.counters, h.order⟩

theorem State.Sound.inv {s : State} (h : s.Sound) (hpassing : s.passing = none) : s.Inv :=
  ⟨h.mem, hpassing, h.registers, h.beam, h.tables, h.kinds, h.counters, h.order⟩

/-- Only RESET changes no configuration and every change keeps it. -/
theorem Change.cfg_eq {l : Label} {s t : State} (h : Change l s t) : t.cfg = s.cfg := by
  cases h with
  | tick => rw [tick_eq]
  | ptr _ p v => exact setPtr_cfg ..
  | modulo _ m v => exact setModulo_cfg ..
  | _ => rfl

theorem Change.mem_wf {l : Label} {s t : State} (h : Change l s t) (hs : s.mem.wf = true) : t.mem.wf = true := by
  cases h with
  | store _ a v => exact writeWord_wf a v hs
  | tick => rw [tick_eq]; exact hs
  | ptr _ p v => rw [setPtr_mem]; exact hs
  | modulo _ m v => rw [setModulo_mem]; exact hs
  | _ => exact hs

theorem ptr_withBlt {s : State} {b : Blitter} (ha : b.apt = s.blt.apt) (hb : b.bpt = s.blt.bpt) (hc : b.cpt = s.blt.cpt)
    (hd : b.dpt = s.blt.dpt) (p : PtrId) : ({ s with blt := b } : State).ptr p = s.ptr p := by
  rcases p with _ | (_ | _ | _ | _) | _ | _ | _
  case blt.a => exact ha
  case blt.b => exact hb
  case blt.c => exact hc
  case blt.d => exact hd
  all_goals rfl

theorem modulo_withBlt {s : State} {b : Blitter} (ha : b.amod = s.blt.amod) (hb : b.bmod = s.blt.bmod)
    (hc : b.cmod = s.blt.cmod) (hd : b.dmod = s.blt.dmod) (m : ModId) :
    ({ s with blt := b } : State).modulo m = s.modulo m := by
  rcases m with _ | _ | (_ | _ | _ | _)
  case blt.a => exact ha
  case blt.b => exact hb
  case blt.c => exact hc
  case blt.d => exact hd
  all_goals rfl

/-- The pointers stay even 19-bit values (R95). -/
theorem Change.ptrs_ok {l : Label} {s t : State} (h : Change l s t) (hs : ∀ p, ptrOk (s.ptr p)) (q : PtrId) :
    ptrOk (t.ptr q) := by
  cases h with
  | tick => rw [tick_eq]; exact hs q
  | ptr _ p v hv =>
    by_cases hq : q = p
    · rw [hq, ptr_setPtr_same]; exact hv (hs p)
    · rw [ptr_setPtr_other _ _ hq]; exact hs q
  | modulo _ m v => rw [ptr_setModulo]; exact hs q
  | bltInner _ b hb => rw [ptr_withBlt hb.apt hb.bpt hb.cpt hb.dpt]; exact hs q
  | _ => exact hs q

theorem Change.modulos_ok {l : Label} {s t : State} (h : Change l s t) (hs : ∀ m, moduloOk (s.modulo m)) (n : ModId) :
    moduloOk (t.modulo n) := by
  cases h with
  | tick => rw [tick_eq]; exact hs n
  | ptr _ p v => rw [modulo_setPtr]; exact hs n
  | modulo _ m v hv =>
    by_cases hn : n = m
    · rw [hn, modulo_setModulo_same]; exact hv
    · rw [modulo_setModulo_other _ _ hn]; exact hs n
  | bltInner _ b hb => rw [modulo_withBlt hb.amod hb.bmod hb.cmod hb.dmod]; exact hs n
  | _ => exact hs n

theorem Change.dmacon_ok {l : Label} {s t : State} (h : Change l s t)
    (hs : s.dmacon &&& Config.dmaconMask = s.dmacon) : t.dmacon &&& Config.dmaconMask = t.dmacon := by
  cases h with
  | dmacon _ v hv => exact hv hs
  | tick => rw [tick_eq]; exact hs
  | ptr _ p v => rw [setPtr_dmacon]; exact hs
  | modulo _ m v => rw [setModulo_dmacon]; exact hs
  | _ => exact hs

theorem Change.window_ok {l : Label} {s t : State} (h : Change l s t) (hstrt : s.ddfstrt &&& s.cfg.ddfMask = s.ddfstrt)
    (hstop : s.ddfstop &&& s.cfg.ddfMask = s.ddfstop) :
    t.ddfstrt &&& t.cfg.ddfMask = t.ddfstrt ∧ t.ddfstop &&& t.cfg.ddfMask = t.ddfstop := by
  rw [h.cfg_eq]
  cases h with
  | ddfstrt _ v hv => exact ⟨hv, hstop⟩
  | ddfstop _ v hv => exact ⟨hstrt, hv⟩
  | tick => rw [tick_eq]; exact ⟨hstrt, hstop⟩
  | ptr _ p v => rw [setPtr_ddfstrt, setPtr_ddfstop]; exact ⟨hstrt, hstop⟩
  | modulo _ m v => rw [setModulo_ddfstrt, setModulo_ddfstop]; exact ⟨hstrt, hstop⟩
  | _ => exact ⟨hstrt, hstop⟩

theorem Change.registers_ok {l : Label} {s t : State} (h : Change l s t) (hs : s.RegistersOk) : t.RegistersOk :=
  have hwindow := h.window_ok hs.ddfstrt hs.ddfstop
  ⟨h.ptrs_ok hs.ptr, h.modulos_ok hs.modulo, h.dmacon_ok hs.dmacon, hwindow.1, hwindow.2⟩

/-- The three parts of a beam that is the clock's (R172). -/
theorem beamOk_iff (s : State) : s.BeamOk ↔
    s.clock / 71051 = s.frame ∧ s.clock % 71051 / 227 = s.line ∧ s.clock % 227 = s.column := by
  simp only [State.BeamOk, cycleToBeam, Prod.mk.injEq]

theorem tick_beamOk {s : State} (h : s.BeamOk) : (tick s).BeamOk := by
  rw [beamOk_iff] at h ⊢
  obtain ⟨hframe, hline, hcolumn⟩ := h
  by_cases hcol : s.column + 1 = 227
  · by_cases hlin : s.line + 1 = 313
    · rw [tick_frame_end hcol hlin]
      refine ⟨?_, ?_, ?_⟩ <;> dsimp only <;> omega
    · rw [tick_line_end hcol hlin]
      refine ⟨?_, ?_, ?_⟩ <;> dsimp only <;> omega
  · rw [tick_within_line hcol]
    refine ⟨?_, ?_, ?_⟩ <;> dsimp only <;> omega

/-- A beam is the clock's when both are those of a state in which it is. -/
theorem beamOk_of_cyclePart {s t : State} (h : t.cyclePart = s.cyclePart) (hs : s.BeamOk) : t.BeamOk := by
  obtain ⟨hclock, hframe, hline, hcolumn⟩ := beam_of_cyclePart h
  rw [beamOk_iff] at hs ⊢
  rwa [hclock, hframe, hline, hcolumn]

theorem Change.beam_ok {l : Label} {s t : State} (h : Change l s t) (hs : s.BeamOk) : t.BeamOk := by
  by_cases hl : l = .tick
  · subst hl
    cases h
    exact tick_beamOk hs
  · exact beamOk_of_cyclePart (h.cyclePart_eq hl) hs

theorem Change.tables_ok {l : Label} {s t : State} (h : Change l s t) (hs : s.TablesOk) : t.TablesOk := by
  obtain ⟨hlength, hnext, hfirst, hlast⟩ := hs
  cases h with
  | table _ t ht => exact ⟨ht, rfl, rfl, rfl⟩
  | tick => rw [tick_eq]; exact ⟨hlength, hnext, hfirst, hlast⟩
  | ptr _ p v =>
    exact ⟨by rwa [setPtr_owner], by rwa [setPtr_next, setPtr_owner], by rwa [setPtr_first, setPtr_owner],
      by rwa [setPtr_lastFetch, setPtr_owner]⟩
  | modulo _ m v =>
    exact ⟨by rwa [setModulo_owner], by rwa [setModulo_next, setModulo_owner],
      by rwa [setModulo_first, setModulo_owner], by rwa [setModulo_lastFetch, setModulo_owner]⟩
  | _ => exact ⟨hlength, hnext, hfirst, hlast⟩

/-- Only a change of a slot writes that slot. -/
theorem Change.slot_eq {l : Label} {s t : State} (h : Change l s t) {x : SlotId} (hl : l ≠ .slot x) :
    t.slot x = s.slot x := by
  cases h with
  | fill _ y e => exact slot_setSlot_other _ _ (fun hx => hl (hx ▸ rfl))
  | empty _ y => exact slot_setSlot_other _ _ (fun hx => hl (hx ▸ rfl))
  | tick => rw [tick_eq]; rfl
  | ptr _ p v => rw [State.slot, setPtr_slots]; rfl
  | modulo _ m v => rw [State.slot, setModulo_slots]; rfl
  | _ => rfl

theorem Change.kinds_ok {l : Label} {s t : State} (h : Change l s t) (hs : s.KindsOk) : t.KindsOk := by
  intro x e hx
  by_cases hl : l = .slot x
  · subst hl
    cases h with
    | fill _ _ e' hkind =>
      rw [slot_setSlot_same] at hx
      cases hx
      exact hkind
    | empty => rw [slot_setSlot_same] at hx; cases hx
  · rw [h.slot_eq hl] at hx
    exact hs x e hx

theorem widthOf_le (bltsize : Word) : widthOf bltsize ≤ 64 := by
  unfold widthOf
  split
  · exact le_rfl
  · exact (bltsize.extractLsb' 0 6).isLt.le

theorem heightOf_le (bltsize : Word) : heightOf bltsize ≤ 1024 := by
  unfold heightOf
  split
  · exact le_rfl
  · exact (bltsize.extractLsb' 6 10).isLt.le

theorem Change.counters_ok {l : Label} {s t : State} (h : Change l s t) (hs : s.blt.CountersOk) : t.blt.CountersOk := by
  obtain ⟨hwc, hhc, hwload⟩ := hs
  cases h with
  | tick => rw [tick_eq]; exact ⟨hwc, hhc, hwload⟩
  | ptr _ p v => rcases p with _ | (_ | _ | _ | _) | _ | _ | _ <;> exact ⟨hwc, hhc, hwload⟩
  | modulo _ m v => rcases m with _ | _ | (_ | _ | _ | _) <;> exact ⟨hwc, hhc, hwload⟩
  | bltStart _ program => exact ⟨widthOf_le _, heightOf_le _, widthOf_le _⟩
  | bltInner _ b hb => exact hb.counters ⟨hwc, hhc, hwload⟩
  | _ => exact ⟨hwc, hhc, hwload⟩

theorem Change.sound {l : Label} {s t : State} (h : Change l s t) (hs : s.Sound) : t.Sound :=
  ⟨h.mem_wf hs.mem, h.registers_ok hs.registers, h.beam_ok hs.beam, h.tables_ok hs.tables, h.kinds_ok hs.kinds,
    h.counters_ok hs.counters, by rw [h.cfg_eq]; exact hs.order⟩

theorem Moves.sound {A : List Label} {s t : State} (h : Moves A s t) (hs : s.Sound) : t.Sound :=
  h.ind hs fun _ _ _ _ _ hchange => hchange.sound

/-- Only the start and the end of a handler's turn write `passing`. -/
theorem Change.passing_eq {l : Label} {s t : State} (h : Change l s t) (hl : l ≠ .passing) : t.passing = s.passing := by
  cases h with
  | passing => exact absurd rfl hl
  | tick => rw [tick_eq]
  | ptr _ p v => exact setPtr_passing ..
  | modulo _ m v => exact setModulo_passing ..
  | _ => rfl

theorem Moves.passing_eq {A : List Label} {s t : State} (h : Moves A s t) (hA : .passing ∉ A) : t.passing = s.passing :=
  h.ind (P := fun u => u.passing = s.passing) rfl fun _ _ _ hl _ hchange hu =>
    (hchange.passing_eq (fun hpassing => hA (hpassing ▸ hl))).trans hu

/-- Cycles end outside a pass when they begin outside one (R146). -/
theorem runCycles_passing (n : Nat) {s : State} (h : s.passing = none) : (runCycles n s).passing = none :=
  runCycles_ind (P := fun u => u.passing = none) (fun _ _ => rfl) (fun u hu => by rw [tick_eq]; exact hu) n s h

theorem exec_passing {i : Instr} {s t : State} (h : s.passing = none) (hexec : exec i s = .next t) : t.passing = none := by
  have hcycles (n : Nat) : (unlessHalted (runCycles n) s).passing = none :=
    unlessHalted_ind (P := fun u => u.passing = none) h fun h => runCycles_passing n h
  by_cases hreset : i = .reset
  · subst hreset
    obtain rfl := Host.Outcome.next.inj hexec
    exact atBoundary_ind (P := fun u => u.passing = none) h rfl
  by_cases hadvance : ∃ target, i = .advanceTo target
  · obtain ⟨target, rfl⟩ := hadvance
    obtain rfl := Host.Outcome.next.inj hexec
    exact hcycles _
  by_cases hstep : i = .hostStep
  · subst hstep
    obtain rfl := Host.Outcome.next.inj hexec
    exact unlessHalted_ind (P := fun u => u.passing = none) h fun h =>
      atBoundary_ind (P := fun u => u.passing = none) h (runCycles_passing _ h)
  have hA : .passing ∉ opLabels i := by
    unfold opLabels
    split
    · exact absurd ⟨_, rfl⟩ hadvance
    · exact absurd rfl hstep
    all_goals decide
  exact ((exec_moves hreset hexec).passing_eq hA).trans h

/-- The scans of an empty table find no column. -/
theorem scanNext_replicate_none (n : Nat) :
    ∀ c, scanNext c (List.replicate n .none) = (List.replicate n none, none) := by
  induction n with
  | zero => exact fun _ => rfl
  | succ n ih => intro c; rw [List.replicate_succ, scanNext, ih, if_pos rfl, List.replicate_succ]

theorem scanLast_replicate_none (p : Fin 6) (n : Nat) : ∀ c, scanLast p c (List.replicate n .none) = none := by
  induction n with
  | zero => exact fun _ => rfl
  | succ n ih => intro c; rw [List.replicate_succ, scanLast, ih, if_neg nofun]

theorem lastFetchOf_replicate_none (n : Nat) :
    lastFetchOf (List.replicate n .none) = #v[none, none, none, none, none, none] := by
  simp only [lastFetchOf, scanLast_replicate_none]

theorem resetCore_inv {s : State} (hmem : s.mem.wf = true) (horder : s.cfg.OrderOk) : s.resetCore.Inv where
  mem := hmem
  passing := rfl
  registers := by
    refine ⟨fun p => ?_, fun m => ?_, BitVec.zero_and, BitVec.zero_and, BitVec.zero_and⟩
    · have hzero : s.resetCore.ptr p = 0 := by
        rcases p with _ | (_ | _ | _ | _) | n | n | n <;> simp [State.ptr, Core.reset, Blitter.reset]
      rw [hzero]
      exact BitVec.zero_and
    · rcases m with _ | _ | (_ | _ | _ | _) <;> exact BitVec.zero_and
  beam := by simp [beamOk_iff, Core.reset]
  tables := by
    refine ⟨List.length_replicate, ?_, ?_, ?_⟩ <;> simp only [resetCore_toCore, Core.reset]
    · rw [scanNext_replicate_none]
    · rw [scanNext_replicate_none]
    · rw [lastFetchOf_replicate_none]; rfl
  kinds := by
    intro x e hx
    cases x <;> cases hx
    rfl
  counters := ⟨Nat.zero_le _, Nat.zero_le _, Nat.zero_le _⟩
  order := horder

theorem exec_inv {i : Instr} {s t : State} (h : s.Inv) (hexec : exec i s = .next t) : t.Inv := by
  by_cases hreset : i = .reset
  · subst hreset
    obtain rfl := Host.Outcome.next.inj hexec
    exact atBoundary_ind (P := State.Inv) h (resetCore_inv h.mem h.order)
  · exact ((exec_moves hreset hexec).sound h.sound).inv (exec_passing h.passing hexec)

/-! ### The step (60_exceptions.md R349) -/

/-- Settles O6: `fetch` takes the packet and `step` runs what it decodes to. -/
theorem stepRunsDecodedOperation : Obligations.StepRunsDecodedOperation := by
  intro s p rest i hinbox hformat hdecode
  simp only [step, fetch, fetchPacket, hinbox, if_neg hformat, hdecode]

/-- Settles O7, by the cases of the inbox. -/
theorem stepWithoutOperation : Obligations.StepWithoutOperation := by
  intro s
  refine ⟨fun hinbox hpaused => ?_, fun hinbox hpaused => ?_, fun p rest hinbox hnone => ?_, fun answers rest hinbox => ?_,
    fun a v rest hinbox => ?_⟩
  · simp [step, fetch, hinbox, hpaused]
  · simp [step, fetch, hinbox, hpaused]
  · rcases hnone with hformat | ⟨e, herror⟩
    · simp [step, fetch, fetchPacket, hinbox, hformat]
    · by_cases hformat : p.format = .uword
      · simp [step, fetch, fetchPacket, hinbox, hformat]
      · simp [step, fetch, fetchPacket, hinbox, hformat, herror]
  · simp only [step, fetch, hinbox]
  · simp only [step, fetch, hinbox]
    rfl

/-- What a step does: it takes at most one input and runs an operation, HOST_STEP or one decoded from a packet; or it leaves
the core as it is, with at most a collaborator's word stored. -/
theorem step_cases {s t : State} (h : step s = .next t) :
    (∃ i inbox, inbox ⊆ s.inbox ∧ exec i { s with inbox := inbox, reply := .none } = .next t ∧
      (i = .hostStep ∨ ∃ p, .op p ∈ s.inbox ∧ decode p = .ok i)) ∨
    (t.toCore = s.toCore ∧ t.cfg = s.cfg ∧ t.handlers = s.handlers ∧ t.inbox ⊆ s.inbox ∧
      (t.mem = s.mem ∨ ∃ a v, t.mem = s.mem.writeWord a v)) := by
  obtain ⟨hrun, hpause, hforeign, hpixel, hwrite⟩ := stepWithoutOperation s
  cases hinbox : s.inbox with
  | nil =>
    by_cases hpaused : s.paused = true
    · rw [hpause hinbox hpaused] at h
      cases h
      exact .inr ⟨rfl, rfl, rfl, hinbox ▸ List.Subset.refl _, .inl rfl⟩
    · rw [hrun hinbox (by simpa using hpaused)] at h
      exact .inl ⟨.hostStep, s.inbox, hinbox ▸ List.Subset.refl _, h, .inl rfl⟩
  | cons input rest =>
    have htail : rest ⊆ input :: rest := List.subset_cons_self _ _
    cases input with
    | op p =>
      by_cases hop : p.format ≠ .uword ∧ ∃ i, decode p = .ok i
      · obtain ⟨hformat, i, hdecode⟩ := hop
        rw [stepRunsDecodedOperation s p rest i hinbox hformat hdecode] at h
        exact .inl ⟨i, rest, htail, h, .inr ⟨p, List.mem_cons_self, hdecode⟩⟩
      · have hnone : p.format = .uword ∨ ∃ e, decode p = .error e := by
          cases hdecode : decode p with
          | error e => exact .inr ⟨e, rfl⟩
          | ok i => exact .inl (not_not.mp fun hformat => hop ⟨hformat, i, hdecode⟩)
        rw [hforeign p rest hinbox hnone] at h
        cases h
        exact .inr ⟨rfl, rfl, rfl, htail, .inl rfl⟩
    | pixel answers =>
      rw [hpixel answers rest hinbox] at h
      cases h
      exact .inr ⟨rfl, rfl, rfl, htail, .inl rfl⟩
    | write a v =>
      rw [hwrite a v rest hinbox] at h
      cases h
      exact .inr ⟨rfl, rfl, rfl, htail, .inr ⟨a, v, rfl⟩⟩

/-- The invariant speaks of the core, chip memory and the configuration. -/
theorem State.Inv.of_toCore {s t : State} (h : s.Inv) (hcore : t.toCore = s.toCore) (hcfg : t.cfg = s.cfg)
    (hmem : t.mem.wf = true) : t.Inv := by
  obtain ⟨_, hpassing, ⟨hptr, hmodulo, hdmacon, hstrt, hstop⟩, hbeam, ⟨hlength, hnext, hfirst, hlast⟩, hkinds, hcounters,
    horder⟩ := h
  obtain ⟨core, _, mem, cfg, _, _, _, _, _⟩ := t
  subst hcore hcfg
  exact ⟨hmem, hpassing, ⟨hptr, hmodulo, hdmacon, hstrt, hstop⟩, hbeam, ⟨hlength, hnext, hfirst, hlast⟩, hkinds, hcounters,
    horder⟩

/-- Settles O58: each elementary change of an operation keeps each part of the invariant, a pass ends with no slot passing,
and the inputs that are no operations leave the core. -/
theorem stepKeepsInv : Obligations.StepKeepsInv := by
  intro s t h hstep
  rcases step_cases hstep with ⟨i, inbox, _, hexec, _⟩ | ⟨hcore, hcfg, _, _, hmem⟩
  · have hfetched : ({ s with inbox := inbox, reply := .none } : State).Inv := h.of_toCore rfl rfl h.mem
    exact exec_inv hfetched hexec
  · refine h.of_toCore hcore hcfg ?_
    rcases hmem with hmem | ⟨a, v, hmem⟩ <;> rw [hmem]
    · exact h.mem
    · exact writeWord_wf a v h.mem

end Sys2Proof.Machine

/-! Chip memory and the records of its accesses (20_memory.md R93 to R101): which operations store, and where reads are made. -/

namespace Sys2Proof.Machine

/-! ### What a change leaves, by its label -/

/-- What no change with a label of the list writes, a sequence leaves. -/
theorem Moves.frame {α : Type} {f : State → α} {A : List Label} {s t : State} (h : Moves A s t)
    (hf : ∀ l u v, l ∈ A → Change l u v → f v = f u) : f t = f s :=
  h.ind (P := fun u => f u = f s) rfl fun l u v hl _ hchange hu => (hf l u v hl hchange).trans hu

/-- Only a store writes chip memory. -/
theorem Change.mem_eq {l : Label} {s t : State} (h : Change l s t) (hl : l ≠ .store) : t.mem = s.mem := by
  cases h with
  | store => exact absurd rfl hl
  | tick => rw [tick_eq]
  | ptr _ p v => exact setPtr_mem ..
  | modulo _ m v => exact setModulo_mem ..
  | _ => rfl

theorem Moves.mem_eq {A : List Label} {s t : State} (h : Moves A s t) (hA : .store ∉ A) : t.mem = s.mem :=
  h.frame fun _ _ _ hl hchange => hchange.mem_eq fun hstore => hA (hstore ▸ hl)

theorem Change.handlers_eq {l : Label} {s t : State} (h : Change l s t) (hl : l ≠ .script) :
    t.handlers = s.handlers := by
  cases h with
  | script => exact absurd rfl hl
  | tick => rw [tick_eq]
  | ptr _ p v => exact setPtr_handlers ..
  | modulo _ m v => exact setModulo_handlers ..
  | _ => rfl

theorem Moves.handlers_eq {A : List Label} {s t : State} (h : Moves A s t) (hA : .script ∉ A) :
    t.handlers = s.handlers :=
  h.frame fun _ _ _ hl hchange => hchange.handlers_eq fun hscript => hA (hscript ▸ hl)

/-- Only a start writes the program. -/
theorem Change.prog_eq {l : Label} {s t : State} (h : Change l s t) (hl : l ≠ .bltStart) : t.blt.prog = s.blt.prog := by
  cases h with
  | bltStart => exact absurd rfl hl
  | bltInner _ b hb => exact hb.prog
  | tick => rw [tick_eq]
  | ptr _ p v => rcases p with _ | (_ | _ | _ | _) | _ | _ | _ <;> rfl
  | modulo _ m v => rcases m with _ | _ | (_ | _ | _ | _) <;> rfl
  | _ => rfl

theorem Moves.prog_eq {A : List Label} {s t : State} (h : Moves A s t) (hA : .bltStart ∉ A) :
    t.blt.prog = s.blt.prog :=
  h.frame (f := fun u => u.blt.prog) fun _ _ _ hl hchange => hchange.prog_eq fun hstart => hA (hstart ▸ hl)

theorem Moves.slot_eq {A : List Label} {s t : State} {x : SlotId} (h : Moves A s t) (hA : .slot x ∉ A) :
    t.slot x = s.slot x :=
  h.frame (f := fun u => u.slot x) fun _ _ _ hl hchange => hchange.slot_eq fun hslot => hA (hslot ▸ hl)

/-! ### The history -/

/-- A change adds at most one record: a read is at a pointer register's address, a notification has its own label, and a
store is the only change that records a write. -/
theorem Change.history_cases {l : Label} {s t : State} (h : Change l s t) :
    (t.history = s.history ∧ l ≠ .store) ∨ ∃ what, t.history = s.history ++ [⟨s.clock, what⟩] ∧
      (∀ a, what = .read a → ∃ p, a = chipAddr (s.ptr p)) ∧ (∀ n, what = .notify n → l = .notice n) ∧
      (l = .store → ∃ a v, what = .write a v) := by
  cases h with
  | read _ p => exact .inr ⟨_, rfl, fun a ha => ⟨p, by cases ha; rfl⟩, nofun, nofun⟩
  | store _ a v => exact .inr ⟨_, rfl, nofun, nofun, fun _ => ⟨a, v, rfl⟩⟩
  | notice _ n => exact .inr ⟨_, rfl, nofun, fun m hm => by cases hm; rfl, nofun⟩
  | poke | peek | dispatch | raise => exact .inr ⟨_, rfl, nofun, nofun, nofun⟩
  | tick => rw [tick_eq]; exact .inl ⟨rfl, nofun⟩
  | ptr _ p v => exact .inl ⟨setPtr_history .., nofun⟩
  | modulo _ m v => exact .inl ⟨setModulo_history .., nofun⟩
  | _ => exact .inl ⟨rfl, nofun⟩

/-! ### Reads (R95, R99) -/

/-- The address that a pointer register drives is even. -/
theorem chipAddr_even {p : Ptr} (h : ptrOk p) : (chipAddr p).toNat % 2 = 0 := by
  have hbit : p.getLsbD 0 = false := by
    by_contra hset
    have := (ptrOk_iff p).mp h 0 (by decide) (by simpa using hset)
    omega
  have hlow : p.toNat % 2 = 0 := by
    rw [BitVec.getLsbD, Nat.testBit_zero, decide_eq_false_iff_not] at hbit
    omega
  rw [chipAddr, BitVec.extractLsb'_toNat]
  omega

/-- The pointers hold even 19-bit values, and every read recorded since `old` is at an even address. -/
structure AlignedSince (old : List Record) (s : State) : Prop where
  ptrs  : ∀ p, ptrOk (s.ptr p)
  reads : ∀ r ∈ s.history, r ∉ old → ∀ a, r.what = .read a → a.toNat % 2 = 0

theorem Change.alignedSince {l : Label} {s t : State} {old : List Record} (h : Change l s t)
    (hs : AlignedSince old s) : AlignedSince old t := by
  refine ⟨h.ptrs_ok hs.ptrs, fun r hr hnew a ha => ?_⟩
  rcases h.history_cases with ⟨hhistory, _⟩ | ⟨what, hhistory, hread, _, _⟩ <;> rw [hhistory] at hr
  · exact hs.reads r hr hnew a ha
  · rcases List.mem_append.mp hr with hold | hlast
    · exact hs.reads r hold hnew a ha
    · obtain rfl := List.mem_singleton.mp hlast
      obtain ⟨p, rfl⟩ := hread a ha
      exact chipAddr_even (hs.ptrs p)

/-- Settles O57: every read is at a pointer register's address, and the pointers stay even. -/
theorem readsAreAligned : Obligations.ReadsAreAligned := by
  intro i s t r a hinv hexec hr hnew ha
  have hstart : AlignedSince s.history s := ⟨hinv.registers.ptr, fun r hr hnew => absurd hr hnew⟩
  by_cases hreset : i = .reset
  · subst hreset
    obtain rfl := Host.Outcome.next.inj hexec
    have hkept : ∀ x ∈ (atBoundary State.resetCore s).history, x ∈ s.history :=
      atBoundary_ind (P := fun u => ∀ x ∈ u.history, x ∈ s.history) (fun _ hx => hx) (by simp)
    exact absurd (hkept r hr) hnew
  · have hend := (exec_moves hreset hexec).ind hstart fun _ _ _ _ _ hchange => hchange.alignedSince
    exact hend.reads r hr hnew a ha

/-! ### Stores (R94, R97) -/

/-- The operations that run no cycle and no WRITE_D have no store among their changes. -/
theorem store_notMem_opLabels {i : Instr} (hwrite : i ≠ .writeD) (hstepFire : i ≠ .bltStepFire) (hstep : i ≠ .hostStep)
    (hadvance : ∀ target, i ≠ .advanceTo target) : .store ∉ opLabels i := by
  unfold opLabels
  split
  case h_1 => exact absurd rfl (hadvance _)
  case h_2 => exact absurd rfl hstep
  case h_4 => exact absurd rfl hwrite
  case h_5 => exact absurd rfl hstepFire
  all_goals decide

theorem exec_reset_mem {s t : State} (hexec : exec .reset s = .next t) : t.mem = s.mem := by
  obtain rfl := Host.Outcome.next.inj hexec
  exact atBoundary_ind (P := fun u => u.mem = s.mem) rfl rfl

/-- The actions before WRITE_D leave chip memory and the D pointer. -/
theorem runActions_writeD_last (u : Word) (s : State) :
    ∃ r, runActions u s = whenBit (u.getLsbD 6) writeD r ∧ r.mem = s.mem ∧ r.blt.dpt = s.blt.dpt := by
  have hbit (f : State → State) (hf : ∀ t, (f t).mem = t.mem ∧ (f t).blt.dpt = t.blt.dpt) (bit : Bool) {t : State}
      (ht : t.mem = s.mem ∧ t.blt.dpt = s.blt.dpt) :
      (whenBit bit f t).mem = s.mem ∧ (whenBit bit f t).blt.dpt = s.blt.dpt := by
    cases bit
    case false => exact ht
    case true => exact ⟨(hf t).1.trans ht.1, (hf t).2.trans ht.2⟩
  have hcount (t : State) : (holdD t).blt.dpt = t.blt.dpt :=
    (countWord_innerChange { t.blt with dhold := t.blt.combined }).dpt
  refine ⟨_, rfl, ?_⟩
  exact hbit holdD (fun t => ⟨rfl, hcount t⟩) _ <| hbit holdB (fun _ => ⟨rfl, rfl⟩) _ <|
    hbit holdA (fun _ => ⟨rfl, rfl⟩) _ <| hbit fetchB (fun _ => ⟨rfl, rfl⟩) _ <|
    hbit fetchA (fun _ => ⟨rfl, rfl⟩) _ <| hbit fetchC (fun _ => ⟨rfl, rfl⟩) _ ⟨rfl, rfl⟩

/-- The actions of a word store nothing without WRITE_D, and with it one word at the D pointer. -/
theorem runActions_mem (u : Word) (s : State) :
    (u.getLsbD 6 = false ∧ (runActions u s).mem = s.mem) ∨
      (u.getLsbD 6 = true ∧ ∃ v, (runActions u s).mem = s.mem.writeWord (chipAddr s.blt.dpt) v) := by
  obtain ⟨r, hactions, hmem, hdpt⟩ := runActions_writeD_last u s
  rw [hactions, ← hmem, ← hdpt]
  cases u.getLsbD 6
  case false => exact .inl ⟨rfl, rfl⟩
  case true => exact .inr ⟨rfl, r.blt.dhold, rfl⟩

/-- The end of a step stores nothing. -/
theorem finishStep_runActions_mem (u : Word) {s : State} (h : s.fault = none) :
    (finishStep u (runActions u s)).mem = (runActions u s).mem :=
  have hrun := (runActions_safe (A := .store :: actionLabels) (u := u) (by decide) (fun _ => by decide) s h).2
  (finishStep_moves u hrun).mem_eq (by decide)

/-- A step stores nothing, or at a legal word with WRITE_D one word at the D pointer. -/
theorem bltStep_mem_cases {s : State} (h : s.fault = none) :
    (bltStep s).mem = s.mem ∨ ∃ u v, s.blt.currentWord = some u ∧ illegalMicro u = false ∧ u.getLsbD 6 = true ∧
      (bltStep s).mem = s.mem.writeWord (chipAddr s.blt.dpt) v := by
  rcases bltStep_cases s with ⟨_, heq⟩ | ⟨u, _, _, heq⟩ | ⟨u, hword, hlegal, heq⟩
  case inr.inr =>
    have hstep : bltStep s = finishStep u (runActions u (Claims.atStep s)) := heq
    rw [hstep, finishStep_runActions_mem (s := Claims.atStep s) u h]
    rcases runActions_mem u (Claims.atStep s) with ⟨_, hmem⟩ | ⟨hbit, v, hmem⟩
    · exact .inl hmem
    · exact .inr ⟨u, v, hword, hlegal, hbit, hmem⟩
  all_goals rw [heq]; exact .inl rfl

theorem exec_bltStepFire_mem_cases {s t : State} (hexec : exec .bltStepFire s = .next t) :
    t.mem = s.mem ∨ ∃ u v, s.fault = none ∧ s.blt.currentWord = some u ∧ illegalMicro u = false ∧ u.getLsbD 6 = true ∧
      t.mem = s.mem.writeWord (chipAddr s.blt.dpt) v := by
  by_cases hfault : s.fault = none
  · rw [exec_bltStepFire_run hfault] at hexec
    cases hexec
    rcases bltStep_mem_cases hfault with hmem | ⟨u, v, hstored⟩
    · exact .inl hmem
    · exact .inr ⟨u, v, hfault, hstored⟩
  · rw [exec_of_halted (i := .bltStepFire) hfault nofun nofun] at hexec
    cases hexec
    exact .inl rfl

theorem currentWord_eq_some {b : Blitter} {u : Word} (h : b.currentWord = some u) :
    ∃ program, b.prog = some program ∧ program[b.upc.toNat]? = some u := by
  unfold Blitter.currentWord at h
  split at h
  · exact ⟨_, ‹_›, h⟩
  · cases h

theorem legal_of_not_illegalMicro {u : Word} (h : illegalMicro u = false) : Claims.Legal u :=
  (microError_eq_none_iff_legal u).mp (by simpa [illegalMicro] using h)

/-! ### Cycles in which nothing can store -/

/-- No handler is to run, and the Blitter has no pending step or a program with no WRITE_D. -/
def State.StoresNothing (s : State) : Prop :=
  s.handlers = [] ∧
    (s.slot .blitter = none ∨ ∀ program u, s.blt.prog = some program → u ∈ program → u.getLsbD 6 = false)

/-- Changes that neither store nor take a script nor start a transfer nor touch the Blitter's slot. -/
theorem Moves.storesNothing {A : List Label} {s t : State} (h : Moves A s t) (hstore : .store ∉ A) (hscript : .script ∉ A)
    (hstart : .bltStart ∉ A) (hslot : .slot .blitter ∉ A) (hs : s.StoresNothing) : t.StoresNothing ∧ t.mem = s.mem := by
  refine ⟨?_, h.mem_eq hstore⟩
  rw [State.StoresNothing, h.handlers_eq hscript, h.slot_eq hslot, h.prog_eq hstart]
  exact hs

/-- A step of a program with no WRITE_D. -/
theorem bltStep_moves_of_no_write {s : State} (h : s.fault = none)
    (hprog : ∀ program u, s.blt.prog = some program → u ∈ program → u.getLsbD 6 = false) :
    Moves bltStepLabels s (bltStep s) := by
  refine bltStep_moves (List.Subset.refl _) (fun u hword _ hbit => ?_) h
  obtain ⟨program, hsome, hat⟩ := currentWord_eq_some hword
  rw [hprog program u hsome (List.mem_of_getElem? hat)] at hbit
  cases hbit

/-- A handler in such a state leaves such a state and chip memory, the Blitter's when its program has no WRITE_D: only the
Blitter's is a Blitter step, and no other one touches the Blitter's slot or its program. -/
theorem handler_storesNothing {x : SlotId} (e : Entry) {s : State} (h : s.fault = none) (hs : s.StoresNothing)
    (hx : x = .blitter → ∀ program u, s.blt.prog = some program → u ∈ program → u.getLsbD 6 = false) :
    (handler x e s).StoresNothing ∧ (handler x e s).mem = s.mem := by
  rcases handler_cases x e s with ⟨_, heq⟩ | ⟨_, heq⟩ | ⟨_, heq⟩ | ⟨hblitter, heq⟩ | ⟨_, heq⟩ <;> rw [heq]
  · have hraise : Moves [.raise] s (raiseFatal (.invalidEventKind x e.kind.code) s) := .one (.raise _ _ nofun) h (by decide)
    exact hraise.storesNothing (by decide) (by decide) (by decide) (by decide) hs
  · exact (hsync_moves h).storesNothing (by decide) (by decide) (by decide) (by decide) hs
  · exact (dmaFire_moves _ h).storesNothing (by decide) (by decide) (by decide) (by decide) hs
  · have hstep := bltStep_moves_of_no_write h (hx hblitter)
    refine ⟨⟨(hstep.handlers_eq (by decide)).trans hs.1, .inr ?_⟩, hstep.mem_eq (by decide)⟩
    rw [hstep.prog_eq (by decide)]
    exact hx hblitter
  · rw [collabHandler, hs.1]
    exact ⟨hs, rfl⟩

theorem dispatchSlot_storesNothing (x : SlotId) {s : State} (h : s.fault = none) (hs : s.StoresNothing) :
    (dispatchSlot x s).StoresNothing ∧ (dispatchSlot x s).mem = s.mem := by
  unfold dispatchSlot
  split
  case h_1 => exact ⟨hs, rfl⟩
  case h_2 e hdue =>
    obtain ⟨hhandlers, hblitter⟩ := hs
    refine handler_storesNothing e (s := s.dispatched x e) h ⟨hhandlers, hblitter.imp_left fun hslot => ?_⟩ fun hx => ?_
    · show (s.slots.set x none).get .blitter = none
      rw [slots_get_set]
      split
      · rfl
      · exact hslot
    · subst hx
      rcases hblitter with hslot | hprog
      · rw [due_eq_some, hslot] at hdue
        cases hdue.1
      · exact hprog

/-- What every dispatch keeps that begins without a fault, a pass over slots keeps. -/
theorem passSlots_ind_run {P : State → Prop} (h : ∀ x s, s.fault = none → P s → P (dispatchSlot x s)) (xs : List SlotId) :
    ∀ s, s.fault = none → P s → P (passSlots xs s) := by
  induction xs with
  | nil => exact fun _ _ h0 => h0
  | cons x rest ih =>
    intro s hfault h0
    rcases andThen_cases (dispatchSlot x) (passSlots rest) s with ⟨_, heq⟩ | ⟨hrun, heq⟩ <;> rw [passSlots, heq]
    · exact h x s hfault h0
    · exact ih _ hrun (h x s hfault h0)

/-- What every pass that begins without a fault keeps and every tick keeps, a run of cycles keeps. -/
theorem runCycles_ind_run {P : State → Prop} (hpass : ∀ s, s.fault = none → P s → P (pass s))
    (htick : ∀ s, s.fault = none → P s → P (tick s)) (n : Nat) : ∀ s, s.fault = none → P s → P (runCycles n s) := by
  induction n with
  | zero => exact fun _ _ h0 => h0
  | succ n ih =>
    intro s hfault h0
    rcases andThen_cases pass (fun t => runCycles n (tick t)) s with ⟨_, heq⟩ | ⟨hrun, heq⟩ <;> rw [runCycles, heq]
    · exact hpass s hfault h0
    · exact ih _ (by rw [tick_fault, hrun]) (htick _ hrun (hpass s hfault h0))

theorem runCycles_mem_of_storesNothing (n : Nat) {s : State} (h : s.fault = none) (hs : s.StoresNothing) :
    (runCycles n s).mem = s.mem := by
  refine (runCycles_ind_run (P := fun u => u.StoresNothing ∧ u.mem = s.mem) (fun u hu ⟨hstores, hmem⟩ => ?_)
    (fun u hu ⟨hstores, hmem⟩ => ?_) n s h ⟨hs, rfl⟩).2
  · exact passSlots_ind_run (P := fun v => v.StoresNothing ∧ v.mem = s.mem) (fun x v hv ⟨hstores, hmem⟩ =>
      have hturn := dispatchSlot_storesNothing x hv hstores
      ⟨hturn.1, hturn.2.trans hmem⟩) u.cfg.slots u hu ⟨hstores, hmem⟩
  · have htick := (Moves.one (A := [.tick]) (.tick u) hu (by decide)).storesNothing (by decide) (by decide) (by decide)
      (by decide) hstores
    exact ⟨htick.1, htick.2.trans hmem⟩

/-! ### Every change of chip memory is recorded -/

/-- Since `s` as many writes as are new have been recorded, and with none of them chip memory is as it was. -/
def WritesRecorded (s u : State) : Prop :=
  Claims.writes s.history ≤ Claims.writes u.history ∧
    (Claims.writes u.history = Claims.writes s.history → u.mem = s.mem)

theorem Change.writesRecorded {l : Label} {s u v : State} (h : Change l u v) (hu : WritesRecorded s u) :
    WritesRecorded s v := by
  obtain ⟨hle, hsame⟩ := hu
  have hgrows : Claims.writes u.history ≤ Claims.writes v.history ∧
      (l = .store → Claims.writes u.history < Claims.writes v.history) := by
    rcases h.history_cases with ⟨heq, hl⟩ | ⟨what, heq, _, _, hwhat⟩
    · rw [heq]
      exact ⟨le_rfl, fun hstore => absurd hstore hl⟩
    · rw [heq, Claims.writes, Claims.writes, List.countP_append]
      refine ⟨Nat.le_add_right _ _, fun hl => ?_⟩
      obtain ⟨a, w, rfl⟩ := hwhat hl
      exact Nat.lt_succ_self _
  refine ⟨hle.trans hgrows.1, fun heq => ?_⟩
  have hl : l ≠ .store := fun hl => by have := hgrows.2 hl; omega
  rw [h.mem_eq hl]
  exact hsame (by have := hgrows.1; omega)

/-- Settles O56: stores are changes with a label of their own, which records them; of the actions of a step only WRITE_D has
it, and cycles in which no script and no WRITE_D can run have none. -/
theorem onlyWriteDStores : Obligations.OnlyWriteDStores := by
  intro i s t hexec
  refine ⟨fun hwrite hstepFire hstep hadvance => ?_, fun hi hwf a heven hodd => ?_, fun hi hnone => ?_,
    fun hi hhandlers hblitter => ?_, fun hwrites => ?_⟩
  · by_cases hreset : i = .reset
    · subst hreset
      exact exec_reset_mem hexec
    · exact (exec_moves hreset hexec).mem_eq (store_notMem_opLabels hwrite hstepFire hstep hadvance)
  · subst hi
    rcases exec_bltStepFire_mem_cases hexec with hmem | ⟨u, v, _, _, _, _, hmem⟩ <;> rw [hmem]
    rw [readByte_writeWord _ _ hwf, if_neg hodd, if_neg heven]
  · subst hi
    rcases exec_bltStepFire_mem_cases hexec with hmem | ⟨u, v, hfault, hword, hlegal, hbit, _⟩
    · exact hmem
    · rcases hnone with hhalted | hunwritten
      · exact absurd hfault hhalted
      · obtain ⟨program, hprog, hat⟩ := currentWord_eq_some hword
        rw [hunwritten program u hprog hat (legal_of_not_illegalMicro hlegal)] at hbit
        cases hbit
  · have hcycles (n : Nat) (hfault : s.fault = none) : (runCycles n s).mem = s.mem :=
      runCycles_mem_of_storesNothing n hfault ⟨hhandlers, hblitter⟩
    rcases hi with rfl | ⟨target, rfl⟩ <;> obtain rfl := Host.Outcome.next.inj hexec
    · exact unlessHalted_ind_run (P := fun u => u.mem = s.mem) rfl fun hfault =>
        atBoundary_ind (P := fun u => u.mem = s.mem) rfl (hcycles _ hfault)
    · exact unlessHalted_ind_run (P := fun u => u.mem = s.mem) rfl (hcycles _)
  · by_cases hreset : i = .reset
    · subst hreset
      exact exec_reset_mem hexec
    · exact ((exec_moves hreset hexec).ind (P := WritesRecorded s) ⟨le_rfl, fun _ => rfl⟩
        fun _ _ _ _ _ hchange => hchange.writesRecorded).2 hwrites

end Sys2Proof.Machine

/-! Event Scheduler (40_event_scheduler.md R144 to R148): runs of cycles put together, cycles with no due entry, and the pass as
the turns of its slots. -/

namespace Sys2Proof.Machine

/-! ### Cycles in stages (R147) -/

/-- The cycles after the first `m` run on the state these left, unless they faulted. -/
theorem runCycles_add (m n : Nat) : ∀ s : State, s.fault = none →
    runCycles (m + n) s = andThen (runCycles m) (runCycles n) s := by
  induction m with
  | zero => intro s h; rw [Nat.zero_add, andThen_run (by exact h)]; rfl
  | succ m ih =>
    intro s _
    rw [show m + 1 + n = m + n + 1 by omega, runCycles]
    by_cases hpass : (pass s).fault = none
    · have hfirst : runCycles (m + 1) s = runCycles m (tick (pass s)) := andThen_run hpass
      rw [andThen_run hpass, ih _ (by rw [tick_fault, hpass]), andThen, andThen, hfirst]
    · have hfirst : runCycles (m + 1) s = pass s := andThen_stop hpass
      rw [andThen_stop hpass, andThen_stop (by rwa [hfirst]), hfirst]

/-- Cycles that raise no fault are counted by the clock. -/
theorem runCycles_clock (n : Nat) : ∀ {s : State}, s.fault = none → (runCycles n s).fault = none →
    (runCycles n s).clock = s.clock + n := by
  induction n with
  | zero => exact fun _ _ => rfl
  | succ n ih =>
    intro s _ hend
    rw [runCycles] at hend ⊢
    rcases andThen_cases pass (fun t => runCycles n (tick t)) s with ⟨hpass, heq⟩ | ⟨hpass, heq⟩ <;> rw [heq] at hend ⊢
    · exact absurd hend hpass
    · rw [ih (by rw [tick_fault, hpass]) hend, tick_clock, pass_clock]
      omega

/-- Settles O14: the cycles to `b` are those to `a` and the rest, and a fault on the way ends both. -/
theorem advanceToComposes : Obligations.AdvanceToComposes := by
  intro s t a b hab hexec
  by_cases hfault : s.fault = none
  swap
  · rw [exec_of_halted (i := .advanceTo a) hfault nofun nofun] at hexec
    cases hexec
    rfl
  rw [exec_advanceTo_run a hfault] at hexec
  obtain rfl := Host.Outcome.next.inj hexec
  rcases Nat.le_total a s.clock with hle | hle
  · rw [advanceTo_of_le hle]
  have hstages : advanceTo b s = andThen (advanceTo a) (runCycles (b - a)) s := by
    rw [advanceTo, show b - s.clock = a - s.clock + (b - a) by omega, runCycles_add _ _ s hfault]
    rfl
  rw [exec_advanceTo_run b hfault, hstages]
  by_cases hmid : (advanceTo a s).fault = none
  · have hclock : (advanceTo a s).clock = a := by
      rw [advanceTo, runCycles_clock _ hfault hmid]
      omega
    have hrest : advanceTo b (advanceTo a s) = runCycles (b - a) (advanceTo a s) :=
      congrArg (fun c => runCycles (b - c) (advanceTo a s)) hclock
    rw [andThen_run hmid, exec_advanceTo_run b hmid, hrest]
  · rw [andThen_stop hmid, exec_of_halted (i := .advanceTo b) hmid nofun nofun]

/-! ### Cycles in which nothing falls due (R145, R172) -/

theorem passSlots_of_none_due {s : State} (h : ∀ x, s.due x = none) (xs : List SlotId) (hfault : s.fault = none) :
    passSlots xs s = s := by
  induction xs with
  | nil => rfl
  | cons x rest ih =>
    have hturn : dispatchSlot x s = s := by rw [dispatchSlot, h x]
    rw [passSlots, andThen_run (by rw [hturn, hfault]), hturn, ih]

theorem pass_of_none_due {s : State} (h : ∀ x, s.due x = none) (hfault : s.fault = none) (hpassing : s.passing = none) :
    pass s = s := by
  rw [pass, passSlots_of_none_due h _ hfault, State.setPassing, ← hpassing]

/-- Without a due entry the clock and the beam alone move, and the beam stays the clock's. -/
theorem runCycles_quiet (n : Nat) : ∀ {s : State}, s.fault = none → s.passing = none → s.BeamOk →
    (∀ x e, s.slot x = some e → e.trigger < s.clock ∨ s.clock + n ≤ e.trigger) →
    runCycles n s = { s with
      clock := s.clock + n
      frame := (s.clock + n) / 71051
      line := (s.clock + n) % 71051 / 227
      column := (s.clock + n) % 227 } := by
  induction n with
  | zero =>
    intro s _ _ hbeam _
    obtain ⟨hframe, hline, hcolumn⟩ := (beamOk_iff s).mp hbeam
    rw [Nat.add_zero, hframe, hline, hcolumn]
    rfl
  | succ n ih =>
    intro s hfault hpassing hbeam hquiet
    have hdue : ∀ x, s.due x = none := fun x => Option.eq_none_iff_forall_not_mem.mpr fun e he => by
      obtain ⟨hslot, htrigger⟩ := due_eq_some.mp he
      have := hquiet x e hslot
      omega
    have hpass : pass s = s := pass_of_none_due hdue hfault hpassing
    have hticked : runCycles (n + 1) s = runCycles n (tick s) := by
      rw [runCycles, andThen_run (by rw [hpass, hfault]), hpass]
    have hslots (x : SlotId) : (tick s).slot x = s.slot x := by rw [tick_eq]; rfl
    rw [hticked, ih (by rw [tick_fault, hfault]) (by rw [tick_eq]; exact hpassing) (tick_beamOk hbeam), tick_clock,
      show s.clock + 1 + n = s.clock + (n + 1) by omega, tick_eq]
    intro x e hslot
    rw [hslots] at hslot
    have := hquiet x e hslot
    rw [tick_clock]
    omega

/-- Settles O15, by the cycles from the clock to the target, in none of which an entry is due. -/
theorem quietCyclesMoveOnlyTheBeam : Obligations.QuietCyclesMoveOnlyTheBeam := by
  intro s target hfault hpassing hbeam hle hquiet
  have htarget : s.clock + (target - s.clock) = target := by omega
  rw [exec_advanceTo_run target hfault, advanceTo, runCycles_quiet _ hfault hpassing hbeam, htarget]
  intro x e hslot
  rw [htarget]
  exact hquiet x e hslot

/-! ### The pass as the turns of its slots (R144, R146, R148) -/

/-- `onward` from a next state is the model's sequencing. -/
theorem onward_next_eq {s : State} {f g : State → State} {k : State → Host.Outcome State Fault Refusal}
    (hk : ∀ t, t.fault = none → k t = .next (g t)) : Claims.onward (.next (f s)) k = .next (andThen f g s) := by
  unfold Claims.onward
  by_cases h : (f s).fault = none
  · simp only [if_pos h, hk _ h, andThen_run h]
  · simp only [if_neg h, andThen_stop h]

theorem handlerAct_eq (act : CollabAct) {s : State} (h : s.fault = none) :
    Claims.handlerAct act s = .next (runCollabAct act s) := by
  cases act with
  | schedule x offset kind payload => exact exec_schedule_run x offset kind payload h
  | cancel x => exact exec_cancel_run x h
  | access r a => exact exec_reg_run h
  | pixel answers => rfl
  | write a v => rfl

theorem handlerScript_eq (script : List CollabAct) : ∀ {s : State}, s.fault = none →
    Claims.handlerScript script s = .next (runScript script s) := by
  induction script with
  | nil => exact fun _ => rfl
  | cons act rest ih =>
    intro s h
    rw [Claims.handlerScript, handlerAct_eq act h]
    exact onward_next_eq fun t ht => ih ht

theorem handled_eq (x : SlotId) (e : Entry) {s : State} (h : s.fault = none) :
    Claims.handled x e s = .next (handler x e s) := by
  unfold Claims.handled handler
  split
  · exact congrArg _ (raiseFatal_eq _ h).symm
  · cases x with
    | raster => exact exec_hsyncFire_run h
    | dma => exact exec_dmaFire_run _ h
    | blitter => exact exec_bltStepFire_run h
    | copper | disk | ciaa | ciab | inspection =>
      unfold collabHandler
      cases s.handlers with
      | nil => rfl
      | cons script rest => exact handlerScript_eq script (s := { s with handlers := rest }) h

theorem turn_eq (x : SlotId) {s : State} (h : s.fault = none) : Claims.turn x s = .next (dispatchSlot x s) := by
  unfold Claims.turn dispatchSlot State.due State.slot
  cases s.slots.get x with
  | none => rfl
  | some e =>
    by_cases htrigger : e.trigger = s.clock
    · simp only [if_pos htrigger]
      exact handled_eq x e (s := s.dispatched x e) h
    · simp only [if_neg htrigger]

theorem turns_eq (xs : List SlotId) : ∀ {s : State}, s.fault = none → Claims.turns xs s = .next (passSlots xs s) := by
  induction xs with
  | nil => exact fun _ => rfl
  | cons x rest ih =>
    intro s h
    rw [Claims.turns, turn_eq x h]
    exact onward_next_eq fun t ht => ih ht

/-- Settles O16: the turns of the slots in their order are the pass, and ADVANCE_TO of the next cycle is the pass and a tick. -/
theorem passRunsTheDueSlotsInOrder : Obligations.PassRunsTheDueSlotsInOrder := by
  refine ⟨rfl, fun s h => ⟨passSlots s.cfg.slots s, turns_eq _ h, rfl, fun hfault => ?_, fun hfault => ?_⟩⟩
  · rw [exec_advanceTo_next h]
    exact congrArg _ (andThen_stop (f := pass) hfault)
  · rw [exec_advanceTo_next h]
    have hpass : (pass s).fault = none := hfault
    rw [andThen_run hpass, ← exec_tick_run hpass]
    rfl

end Sys2Proof.Machine

/-! Reset, the beam conversions, REBUILD's frame, a transfer's start, register accesses and the host's controls. -/

namespace Sys2Proof.Machine

/-! ### Encodings and illegal micro-words (30_encoding.md) -/

/-- Settles O5: the words are closed, and the decoder evaluates them. -/
theorem wordsOfTheSpec : Obligations.WordsOfTheSpec := by
  unfold Obligations.WordsOfTheSpec
  decide

/-- Settles O4: the check of R113 stands before every action of the step. -/
theorem illegalMicroWordFaults : Obligations.IllegalMicroWordFaults := by
  intro s program u hfault hprog hat hillegal
  have hword : s.blt.currentWord = some u := by rw [Blitter.currentWord, hprog]; exact hat
  have herror : illegalMicro u = true := by
    by_contra h
    exact hillegal (legal_of_not_illegalMicro (by simpa using h))
  rw [exec_bltStepFire_run hfault, bltStep, hword]
  simp only [if_pos herror]
  exact congrArg _ (raiseFatal_eq _ hfault)

/-! ### RESET (R64, R380) -/

/-- Settles O9: at a cycle boundary RESET is `resetCore`, whose fields are R64's. -/
theorem resetLeaves : Obligations.ResetLeaves := by
  intro s hpassing
  have hexec : exec .reset s = .next (atBoundary State.resetCore s) := rfl
  rw [hexec, atBoundary, if_pos hpassing]
  rfl

/-- Settles O10: the reset state is a RESET of itself, so the invariant holds of it; its links and its configuration are
closed facts. -/
theorem resetStateIsGood : Obligations.ResetStateIsGood := by
  have hreset : State.reset.resetCore = State.reset := rfl
  have hinv : State.reset.Inv := hreset ▸ resetCore_inv (s := State.reset) reset_mem_wf default_order_ok
  have htimely : State.reset.Timely := fun _ _ _ => Nat.zero_le _
  have hblitter : State.reset.BlitterLinked := by unfold State.BlitterLinked; decide
  have hraster : State.reset.RasterLinked := ⟨⟨0, .hsync, 0⟩, rfl, rfl⟩
  have hdma : State.reset.DmaLinked := fun e he => nomatch (show none = some e from he)
  have hconforming : State.reset.Conforming := ⟨fun _ _ hp _ => (List.not_mem_nil hp).elim, fun _ hs => (List.not_mem_nil hs).elim⟩
  exact ⟨hinv, hconforming, htimely, hblitter, hraster, hdma, rfl, rfl, rfl, rfl, rfl, rfl, rfl, rfl, by decide⟩

/-! ### The beam conversions (R173 to R175) -/

theorem exec_cycleToBeam_run {s : State} (c : Nat) (h : s.fault = none) :
    exec (.cycleToBeam c) s = .next { s with reply := .beam (c / 71051) (c % 71051 / 227) (c % 227) } :=
  congrArg _ (unlessHalted_run h)

theorem exec_beamToCycle_run {s : State} (frame : Option Nat) (line column : Int) (h : s.fault = none) :
    exec (.beamToCycle frame line column) s =
      .next { s with reply := .cycle (beamToCycle (s.frameOr frame) line column) } :=
  congrArg _ (unlessHalted_run h)

/-- Settles O19: both conversions put their result in the reply. -/
theorem beamConversionsReply : Obligations.BeamConversionsReply := fun _ h =>
  ⟨fun frame line column => exec_beamToCycle_run (some frame) line column h,
    fun line column => exec_beamToCycle_run none line column h, fun cycle => exec_cycleToBeam_run cycle h⟩

/-- A position in range is that of its cycle. -/
theorem beamToCycle_of_lt {frame line column : Nat} (hline : line < 313) (hcolumn : column < 227) :
    beamToCycle frame line column = some (frame * 71051 + line * 227 + column) := by
  have hrange : 0 ≤ (line : Int) ∧ (line : Int) < 313 ∧ 0 ≤ (column : Int) ∧ (column : Int) < 227 := by omega
  exact if_pos hrange

/-- Settles O20: line and column are the remainders of the division by which a cycle is put together. -/
theorem beamConversionsAreInverses : Obligations.BeamConversionsAreInverses := by
  intro s h
  refine ⟨fun frame line column hline hcolumn => ⟨frame * 71051 + line * 227 + column, ?_, ?_⟩, fun cycle =>
    ⟨cycle / 71051, cycle % 71051 / 227, cycle % 227, exec_cycleToBeam_run cycle h, ?_⟩⟩
  · rw [exec_beamToCycle_run _ _ _ h, State.frameOr, Option.getD_some, beamToCycle_of_lt hline hcolumn]
  · rw [exec_cycleToBeam_run _ h, show (frame * 71051 + line * 227 + column) / 71051 = frame by omega,
      show (frame * 71051 + line * 227 + column) % 71051 / 227 = line by omega,
      show (frame * 71051 + line * 227 + column) % 227 = column by omega]
  · rw [exec_beamToCycle_run _ _ _ h, State.frameOr, Option.getD_some, beamToCycle_of_lt (by omega) (by omega),
      show cycle / 71051 * 71051 + cycle % 71051 / 227 * 227 + cycle % 227 = cycle by omega]

/-! ### REBUILD (42_slot_allocator.md) -/

/-- Settles O22: a rebuild is a new table with its companions and a new DMA entry. -/
theorem rebuildWritesOnlyItsTables : Obligations.RebuildWritesOnlyItsTables := by
  intro s hfault hbpu
  refine ⟨rebuild s, exec_rebuild_run hfault, ?_⟩
  rw [rebuild_of_bpu_le hbpu]
  exact ⟨currentTable_length s, (scanNext_length 0 _).trans (currentTable_length s), rfl⟩

/-- An empty table has no column for the DMA slot to go to. -/
theorem dmaTarget_of_empty (s : State) (n : Nat) : (s.setTable (List.replicate n .none)).dmaTarget = none := by
  have howner (c : Nat) : (s.setTable (List.replicate n .none)).ownerAt c = .none := by
    simp only [State.ownerAt, State.setTable, List.getElem?_replicate]
    split <;> rfl
  have hnext (c : Nat) : (s.setTable (List.replicate n .none)).nextAt c = none := by
    simp only [State.nextAt, State.setTable, scanNext_replicate_none, List.getElem?_replicate]
    split <;> rfl
  simp [State.dmaTarget, howner, hnext]

/-- Settles O27: without DMAEN the table is empty, so its scans find nothing and there is no column to go to. -/
theorem noDmaWithoutTheMasterEnable : Obligations.NoDmaWithoutTheMasterEnable := by
  intro s hfault hbpu hdmaen
  have htable : s.currentTable = List.replicate 227 .none := ownerTable_of_not_dmaen hdmaen ..
  rw [exec_rebuild_run hfault, rebuild_of_bpu_le hbpu, htable, dmaTarget_of_empty, State.setTable, scanNext_replicate_none,
    lastFetchOf_replicate_none]
  rfl

/-- Settles O28: the plane count is checked first. -/
theorem planeCountAboveSixFaults : Obligations.PlaneCountAboveSixFaults := by
  intro s hfault hbpu
  rw [exec_rebuild_run hfault, rebuild, if_pos hbpu]
  exact congrArg _ (raiseFatal_eq _ hfault)

/-- The column for the DMA slot is a function of the table, the beam and the slot passing. -/
theorem dmaTarget_congr {s s' : State} (t : List Owner) (hclock : s.clock = s'.clock) (hcolumn : s.column = s'.column)
    (hpassing : s.passing = s'.passing) (hcfg : s.cfg = s'.cfg) :
    (s.setTable t).dmaTarget = (s'.setTable t).dmaTarget := by
  simp only [State.dmaTarget, State.earliest, State.ownerAt, State.nextAt, State.setTable, hclock, hcolumn, hpassing, hcfg]
  rfl

/-- Settles O29: the table is a function of the inputs that a rebuild leaves, and the DMA entry one of the table, the beam and
the slot passing. -/
theorem rebuildIsIdempotent : Obligations.RebuildIsIdempotent := by
  refine ⟨fun s t hexec => ?_, fun s t s' t' hfault hfault' hbpu hpixel hdmacon hstrt hstop hcfg hexec hexec' => ?_⟩
  · by_cases hfault : s.fault = none
    swap
    · rw [exec_of_halted (i := .rebuild) hfault nofun nofun] at hexec
      cases hexec
      exact exec_of_halted (i := .rebuild) hfault nofun nofun
    by_cases hbpu : s.pixel.bpu ≤ 6
    · obtain rfl := exec_rebuild_of_bpu_le hfault hbpu hexec
      refine (exec_rebuild_run (by exact hfault)).trans (congrArg _ ?_)
      exact rebuild_of_bpu_le (by exact hbpu)
    · rw [exec_rebuild_run hfault] at hexec
      cases hexec
      exact exec_of_halted (i := .rebuild) (rebuild_halts_of_lt (Nat.lt_of_not_le hbpu)) nofun nofun
  · have htable : s.currentTable = s'.currentTable := by
      rw [State.currentTable, State.currentTable, hpixel, hdmacon, hstrt, hstop, hcfg]
    rw [exec_rebuild_of_bpu_le hfault hbpu hexec, exec_rebuild_of_bpu_le hfault' (hpixel ▸ hbpu) hexec', htable]
    refine ⟨rfl, rfl, rfl, rfl, fun hclock hcolumn hpassing => ?_⟩
    show Option.map _ (s.setTable s'.currentTable).dmaTarget = Option.map _ (s'.setTable s'.currentTable).dmaTarget
    rw [dmaTarget_congr _ hclock hcolumn hpassing hcfg, hclock, hcolumn]

/-! ### A transfer's start (R246) -/

/-- Settles O32: a start that is not refused begins the transfer and schedules its first step, which is in the past exactly
when the delay is not admissible. -/
theorem bltStartBegins : Obligations.BltStartBegins := by
  refine ⟨rfl, fun s program hfault hok => ⟨fun hdelay => ?_, fun hdelay => ?_⟩⟩
  · rw [exec_bltStart_run hfault, blitStart_eq_started hok hdelay]
  · have hpast := scheduleOwn_past .blitter 0 (Claims.begun s program) (Nat.lt_of_not_le hdelay)
    rw [exec_bltStart_run hfault, blitStart_of_startOk hok]
    refine congrArg _ (hpast.trans ?_)
    exact raiseFatal_eq _ hfault

/-! ### Register accesses (45_register_interface.md) -/

/-- Settles O47: the poke's one check is R303's. -/
theorem bltcon0Poke : Obligations.Bltcon0Poke := by
  intro s v hfault
  rw [show exec (.bltcon0 (.poke v)) s = _ from exec_poke_run .bltcon0 v hfault]
  refine ⟨fun hstored => ?_, fun hbusy hmask => ?_⟩
  · have hadmitted : ¬ (s.blt.busy = true ∧ channelMask v ≠ s.blt.chmask) := by
      rw [busy_eq_true_iff]
      exact fun ⟨hbusy, hmask⟩ => hstored.elim hbusy hmask
    exact congrArg _ (if_neg hadmitted)
  · have hrefused : s.blt.busy = true ∧ channelMask v ≠ s.blt.chmask := ⟨(busy_eq_true_iff _).mpr hbusy, hmask⟩
    refine congrArg _ ((if_pos hrefused).trans ?_)
    exact raiseFatal_eq _ hfault

/-- Two fields side by side as a number. -/
theorem toNat_append_eq_add {m n : Nat} (x : BitVec m) (y : BitVec n) : (x ++ y).toNat = x.toNat * 2 ^ n + y.toNat := by
  rw [BitVec.toNat_append, ← Nat.shiftLeft_add_eq_or_of_lt y.isLt, Nat.shiftLeft_eq]

/-- The four fields of VPOSR as a number (R298). -/
theorem vposr_eq {s : State} (hline : s.line < 313) :
    s.vposr = BitVec.ofNat 16 (2 ^ 15 + s.cfg.agnusId.toNat * 2 ^ 8 + s.line / 256) := by
  apply BitVec.eq_of_toNat_eq
  have hid := s.cfg.agnusId.isLt
  have hflag : (1 : BitVec 1).toNat = 1 := rfl
  have hunused : (0 : BitVec 7).toNat = 0 := rfl
  simp only [State.vposr, hflag, hunused, toNat_append_eq_add, BitVec.toNat_ofNat, BitVec.extractLsb'_toNat, Nat.shiftRight_eq_div_pow]
  omega

/-- The two fields of VHPOSR as a number (R299). -/
theorem vhposr_eq {s : State} (hcolumn : s.column < 227) :
    s.vhposr = BitVec.ofNat 16 (s.line % 256 * 256 + s.column) := by
  apply BitVec.eq_of_toNat_eq
  simp only [State.vhposr, toNat_append_eq_add, BitVec.toNat_ofNat]
  omega

/-- Settles O50: a peek is recorded and answered. -/
theorem beamPeeks : Obligations.BeamPeeks := by
  intro s hfault hline hcolumn
  rw [← vposr_eq hline, ← vhposr_eq hcolumn]
  exact ⟨exec_reg_run (r := .vposr) (a := .peek) hfault, exec_reg_run (r := .vhposr) (a := .peek) hfault⟩

/-- A register that is not read-only is write-only (R300). -/
theorem peekReg_writeOnly {r : Reg} (hvposr : r ≠ .vposr) (hvhposr : r ≠ .vhposr) (s : State) :
    peekReg r s = raiseFatal (.readWriteOnly r) s := by
  cases r with
  | vposr => exact absurd rfl hvposr
  | vhposr => exact absurd rfl hvhposr
  | _ => rfl

/-- Settles O51: the width is checked before the record, the direction after it. -/
theorem accessViolations : Obligations.AccessViolations := by
  intro s r hfault
  refine ⟨fun hvposr hvhposr => ?_, fun hreadOnly v => ?_, fun dir width operands _ => ?_⟩ <;> rw [exec_reg_run hfault]
  · refine congrArg _ ((peekReg_writeOnly hvposr hvhposr _).trans ?_)
    exact raiseFatal_eq _ hfault
  · rcases hreadOnly with rfl | rfl <;> exact congrArg _ (raiseFatal_eq _ hfault)
  · exact congrArg _ (raiseFatal_eq _ hfault)

/-! ### The host's controls (R360 to R364) -/

theorem atBoundary_run {f : State → State} {s : State} (h : s.passing = none) : atBoundary f s = f s := if_pos h

/-- Settles O52: at a cycle boundary each control is the change it names. -/
theorem hostControls : Obligations.HostControls := by
  intro s hpassing
  refine ⟨congrArg _ (atBoundary_run hpassing), fun hfault => ⟨?_, ?_, advanceTo (s.clock + 1) s, ?_, ?_⟩⟩
  · exact congrArg _ ((unlessHalted_run hfault).trans (atBoundary_run hpassing))
  · exact congrArg _ ((unlessHalted_run hfault).trans (atBoundary_run hpassing))
  · exact exec_advanceTo_run _ hfault
  · exact congrArg _ ((unlessHalted_run hfault).trans (atBoundary_run hpassing))

/-! ### The barrel shifter (R263) -/

/-- Settles O40: the shifter takes 16 bits of the two words side by side. -/
theorem shiftJoinsTwoWords : Obligations.ShiftJoinsTwoWords := by
  intro old new n j _ hj
  rw [shift, BitVec.getLsbD_extractLsb', BitVec.getLsbD_ushiftRight, BitVec.getLsbD_append]
  simp only [hj, decide_true, Bool.true_and, Nat.zero_add, Nat.add_comm n j]

end Sys2Proof.Machine

/-! The links between slots, beam, table and Blitter, operation by operation (40_event_scheduler.md R150, 41_beam_tracker.md R176,
43_dma_dispatcher.md R226, 45_register_interface.md R309). -/

namespace Sys2Proof.Machine

/-! ### Conforming agents -/

/-- No change adds an input or a script. -/
theorem Change.conforming {l : Label} {s t : State} (h : Change l s t) (hs : s.Conforming) : t.Conforming := by
  have hinbox : t.inbox = s.inbox := by
    cases h with
    | tick => rw [tick_eq]
    | ptr _ p v => exact setPtr_inbox ..
    | modulo _ m v => exact setModulo_inbox ..
    | _ => rfl
  have hhandlers : ∀ script ∈ t.handlers, script ∈ s.handlers := by
    by_cases hl : l = .script
    · subst hl
      cases h with
      | script _ rest hrest => exact hrest
    · rw [h.handlers_eq hl]
      exact fun _ hscript => hscript
  exact ⟨by rw [hinbox]; exact hs.inbox, fun script hscript => hs.handlers script (hhandlers script hscript)⟩

theorem Moves.conforming {A : List Label} {s t : State} (h : Moves A s t) (hs : s.Conforming) : t.Conforming :=
  h.ind hs fun _ _ _ _ _ hchange => hchange.conforming

/-! ### No entry in the past (R150) -/

/-- A scheduler call installs no earlier trigger than the present cycle (R141). -/
theorem Change.timely {l : Label} {s t : State} (h : Change l s t) (hl : l ≠ .tick) (hs : s.Timely) : t.Timely := by
  intro x e hx
  rw [clock_of_cyclePart (h.cyclePart_eq hl)]
  by_cases hslot : l = .slot x
  · subst hslot
    cases h with
    | fill _ _ e' _ htrigger =>
      rw [slot_setSlot_same] at hx
      cases hx
      exact (clock_le_earliest s x).trans htrigger
    | empty => rw [slot_setSlot_same] at hx; cases hx
  · rw [h.slot_eq hslot] at hx
    exact hs x e hx

theorem Moves.timely {A : List Label} {s t : State} (h : Moves A s t) (hA : .tick ∉ A) (hs : s.Timely) : t.Timely :=
  h.ind hs fun _ _ _ hl _ hchange => hchange.timely fun htick => hA (htick ▸ hl)

/-! ### The Blitter's slot and its state (R309) -/

/-- Only a start and a change of the state write the Blitter's state. -/
theorem Change.bltState_eq {l : Label} {s t : State} (h : Change l s t) (hstart : l ≠ .bltStart) (hstate : l ≠ .bltState) :
    t.blt.state = s.blt.state := by
  cases h with
  | bltStart => exact absurd rfl hstart
  | bltState => exact absurd rfl hstate
  | bltInner _ b hb => exact hb.state
  | tick => rw [tick_eq]
  | ptr _ p v => rcases p with _ | (_ | _ | _ | _) | _ | _ | _ <;> rfl
  | modulo _ m v => rcases m with _ | _ | (_ | _ | _ | _) <;> rfl
  | _ => rfl

theorem Moves.bltState_eq {A : List Label} {s t : State} (h : Moves A s t) (hstart : .bltStart ∉ A)
    (hstate : .bltState ∉ A) : t.blt.state = s.blt.state :=
  h.frame (f := fun u => u.blt.state) fun _ _ _ hl hchange =>
    hchange.bltState_eq (fun heq => hstart (heq ▸ hl)) fun heq => hstate (heq ▸ hl)

/-- A pending slot and a running transfer are linked. -/
theorem blitterLinked_of_pending {s : State} {e : Entry} (hslot : s.slot .blitter = some e) (hstate : s.blt.state ≠ .idle) :
    s.BlitterLinked := by
  simp only [State.BlitterLinked, hslot, (busy_eq_true_iff s.blt).mpr hstate, ne_eq, reduceCtorEq, not_false_eq_true]

/-- An empty slot and no transfer are linked. -/
theorem blitterLinked_of_empty {s : State} (hslot : s.slot .blitter = none) (hstate : s.blt.state = .idle) :
    s.BlitterLinked := by
  simp [State.BlitterLinked, hslot, Blitter.busy, hstate]

/-- The changes that touch one side of the Blitter's link. -/
def bltLinkLabels : List Label := [.slot .blitter, .bltState, .bltStart]

theorem Moves.blitterLinked {A : List Label} {s t : State} (h : Moves A s t) (hA : ∀ l ∈ bltLinkLabels, l ∉ A)
    (hs : s.BlitterLinked) : t.BlitterLinked := by
  rw [State.BlitterLinked, Blitter.busy, h.slot_eq (hA _ (by decide)),
    h.bltState_eq (hA _ (by decide)) (hA _ (by decide))]
  exact hs

/-- A start that is not fatal leaves the transfer begun and its first step pending. -/
theorem blitStart_blitterLinked {s : State} (hend : (blitStart s).fault = none) : (blitStart s).BlitterLinked := by
  rcases blitStart_cases s with ⟨_, heq⟩ | ⟨_, _, heq⟩ | ⟨_, _, _, heq⟩ | ⟨_, _, _, _, heq⟩ | ⟨_, _, _, program, _, heq⟩
  case inr.inr.inr.inr =>
    rw [heq, scheduleOwn] at hend ⊢
    rcases scheduleNext_cases .blitter s.cfg.blitStartDelay (slotKind .blitter).code 0
      { s with blt := s.blt.started program } with ⟨_, hnext⟩ | ⟨_, _, hnext⟩ | ⟨_, _, hnext⟩ <;> rw [hnext] at hend ⊢
    · exact absurd hend (raiseFatal_halts _ _)
    · exact absurd hend (raiseFatal_halts _ _)
    · exact blitterLinked_of_pending (slot_setSlot_same ..) nofun
  all_goals
    rw [heq] at hend
    exact absurd hend (raiseFatal_halts _ _)

/-- A poke of dmacon leaves slot and state, or abandons the transfer (R260). -/
theorem storeDmacon_blitterLinked (v : Word) {s : State} (hs : s.BlitterLinked) : (storeDmacon v s).BlitterLinked := by
  unfold storeDmacon
  split
  · exact blitterLinked_of_empty (slot_setSlot_same _ SlotId.blitter none) rfl
  · exact hs

/-- After a step from an empty slot the transfer is done, or its next step is pending (R247). -/
theorem bltStep_blitterLinked {s : State} (hfault : s.fault = none) (hslot : s.slot .blitter = none)
    (hend : (bltStep s).fault = none) : (bltStep s).BlitterLinked := by
  rcases bltStep_cases s with ⟨_, heq⟩ | ⟨u, _, _, heq⟩ | ⟨u, _, _, heq⟩ <;> rw [heq] at hend ⊢
  · exact absurd hend (raiseFatal_halts _ _)
  · exact absurd hend (raiseFatal_halts _ _)
  · obtain ⟨hactions, hrun⟩ := runActions_safe (A := .store :: actionLabels) (u := u) (by decide) (fun _ => by decide)
      { s with blt := { s.blt with state := .running }.latchStep } hfault
    generalize runActions u { s with blt := { s.blt with state := .running }.latchStep } = r at hactions hrun hend ⊢
    cases hdone : r.blt.done
    case true =>
      rw [finishStep_of_done u hdone]
      exact blitterLinked_of_empty ((hactions.slot_eq (x := .blitter) (by decide)).trans hslot) rfl
    case false =>
      rw [finishStep_of_not_done u hdone] at hend ⊢
      rcases andThen_cases (advanceMicro u) (scheduleOwn .blitter 1 0) r with ⟨hstop, heq⟩ | ⟨_, heq⟩ <;> rw [heq] at hend ⊢
      · exact absurd hend hstop
      · have hstate : (advanceMicro u r).blt.state = .running :=
          ((advanceMicro_moves u hrun).bltState_eq (by decide) (by decide)).trans
            (hactions.bltState_eq (by decide) (by decide))
        rw [scheduleOwn_eq .blitter 0 _ le_rfl]
        exact blitterLinked_of_pending (slot_setSlot_same ..) (hstate ▸ nofun)

/-! ### The DMA slot and the table (R200, R226) -/

/-- The entry for a populated column from the present one on, at that column's cycle. -/
theorem dmaLinked_of_entry {s : State} {c : Nat} {k : EventKind} (hle : s.column ≤ c) (hlt : c < Config.cols)
    (howner : s.ownerAt c ≠ .none)
    (hslot : s.slot .dma = some ⟨s.clock + (c - s.column), k, BitVec.ofNat 64 c⟩) : s.DmaLinked := by
  intro e he
  rw [hslot] at he
  cases he
  exact ⟨c, hle, hlt, howner, rfl, rfl⟩

theorem dmaLinked_of_empty {s : State} (hslot : s.slot .dma = none) : s.DmaLinked := by
  intro e he
  rw [hslot] at he
  cases he

/-- A populated column is one of the table. -/
theorem lt_cols_of_ownerAt_ne {s : State} {c : Nat} (htables : s.TablesOk) (h : s.ownerAt c ≠ .none) : c < Config.cols := by
  obtain ⟨o, ho, _⟩ := (populated_iff_ownerAt_ne s c).mpr h
  exact htables.length ▸ (List.getElem?_eq_some_iff.mp ho).1

/-- The column that the companion table makes next is later and populated. -/
theorem nextAt_spec {s : State} {c d : Nat} (htables : s.TablesOk) (h : s.nextAt c = some d) :
    c < d ∧ s.ownerAt d ≠ .none := by
  rw [State.nextAt, htables.next] at h
  by_cases hc : c < s.owner.length
  · rw [scanNext_zero_getElem? hc, Option.getD_some] at h
    obtain ⟨hle, hpopulated, _⟩ := scanNext_drop_some h
    exact ⟨hle, (populated_iff_ownerAt_ne s d).mp hpopulated⟩
  · rw [List.getElem?_eq_none (by rw [scanNext_length]; omega)] at h
    cases h

/-- The column of a rebuild's DMA entry is populated. -/
theorem dmaTarget_ownerAt {s : State} {c : Nat} (htables : s.TablesOk) (h : s.dmaTarget = some c) : s.ownerAt c ≠ .none := by
  have hnext (h : s.nextAt s.column = some c) : s.ownerAt c ≠ .none := (nextAt_spec htables h).2
  unfold State.dmaTarget at h
  split at h
  · split at h
    · cases h; assumption
    · exact hnext h
  · exact hnext h

theorem rebuild_dmaLinked {s : State} (hend : (rebuild s).fault = none) : (rebuild s).DmaLinked := by
  rcases rebuild_cases s with ⟨_, heq⟩ | ⟨_, e, heq, he⟩ <;> rw [heq] at hend ⊢
  · exact absurd hend (raiseFatal_halts _ _)
  · rcases he with ⟨rfl, _⟩ | ⟨c, htarget, hle, _, rfl⟩
    · exact dmaLinked_of_empty (slot_setSlot_same ..)
    · have htables : (s.setTable s.currentTable).TablesOk := ⟨ownerTable_length .., rfl, rfl, rfl⟩
      have howner := dmaTarget_ownerAt htables htarget
      exact dmaLinked_of_entry hle (lt_cols_of_ownerAt_ne htables howner) howner (slot_setSlot_same ..)

theorem nextColumn_dmaLinked {s : State} (htables : s.TablesOk) :
    (nextColumn s).DmaLinked := by
  cases hnext : s.nextAt s.column with
  | none => rw [nextColumn, hnext]; exact dmaLinked_of_empty (slot_setSlot_same ..)
  | some c =>
    obtain ⟨hlt, howner⟩ := nextAt_spec htables hnext
    have hentry : s.next[s.column]? = some (some c) := by
      rwa [State.nextAt, Option.getD_eq_iff, or_iff_left (fun h => nomatch h.2)] at hnext
    rw [nextColumn_eq hentry fun _ hd => Option.some.inj hd ▸ hlt]
    exact dmaLinked_of_entry hlt.le (lt_cols_of_ownerAt_ne htables howner) howner (slot_setSlot_same ..)

theorem Change.owner_eq {l : Label} {s t : State} (h : Change l s t) (hl : l ≠ .table) : t.owner = s.owner := by
  cases h with
  | table => exact absurd rfl hl
  | tick => rw [tick_eq]
  | ptr _ p v => exact setPtr_owner ..
  | modulo _ m v => exact setModulo_owner ..
  | _ => rfl

/-- The changes that touch one side of the DMA slot's link. -/
def dmaLinkLabels : List Label := [.slot .dma, .table, .tick]

theorem Moves.dmaLinked {A : List Label} {s t : State} (h : Moves A s t) (hA : ∀ l ∈ dmaLinkLabels, l ∉ A)
    (hs : s.DmaLinked) : t.DmaLinked := by
  obtain ⟨hclock, _, _, hcolumn⟩ := beam_of_cyclePart (h.cyclePart_eq (hA _ (by decide)))
  have howner : t.owner = s.owner := h.frame (f := fun u => u.owner) fun _ _ _ hl hchange =>
    hchange.owner_eq fun htable => hA .table (by decide) (htable ▸ hl)
  intro e he
  rw [h.slot_eq (hA _ (by decide))] at he
  simp only [hclock, hcolumn, State.ownerAt, howner]
  exact hs e he

/-! ### Both links through the operations of a pass -/

/-- The part of the links that holds within a pass too. -/
structure State.Linked (s : State) : Prop where
  sound      : s.Sound
  conforming : s.Conforming
  blitter    : s.BlitterLinked
  dma        : s.DmaLinked

/-- What changes reach is linked when the two slots' links hold. -/
theorem Moves.linked_of {A : List Label} {s t : State} (h : Moves A s t) (hs : s.Linked) (hblitter : t.BlitterLinked)
    (hdma : t.DmaLinked) : t.Linked :=
  ⟨h.sound hs.sound, h.conforming hs.conforming, hblitter, hdma⟩

/-- Changes that touch no side of either link. -/
theorem Moves.linked {A : List Label} {s t : State} (h : Moves A s t) (hblitter : ∀ l ∈ bltLinkLabels, l ∉ A)
    (hdma : ∀ l ∈ dmaLinkLabels, l ∉ A) (hs : s.Linked) : t.Linked :=
  h.linked_of hs (h.blitterLinked hblitter hs.blitter) (h.dmaLinked hdma hs.dma)

/-- From a linked state with no fault `f` leaves a linked state, unless it raises a fault. -/
def KeepsLinks (f : State → State) : Prop := ∀ s, s.fault = none → s.Linked → (f s).fault = none → (f s).Linked

theorem KeepsLinks.andThen {f g : State → State} (hf : KeepsLinks f) (hg : KeepsLinks g) : KeepsLinks (andThen f g) := by
  intro s hfault hs hend
  rcases andThen_cases f g s with ⟨hstop, heq⟩ | ⟨hrun, heq⟩ <;> rw [heq] at hend ⊢
  · exact absurd hend hstop
  · exact hg _ hrun (hf s hfault hs hrun) hend

theorem rebuild_keepsLinks : KeepsLinks rebuild := fun _ hfault hs hend =>
  (rebuild_moves hfault).linked_of hs ((rebuild_moves hfault).blitterLinked (by decide) hs.blitter) (rebuild_dmaLinked hend)

theorem blitStart_keepsLinks : KeepsLinks blitStart := fun _ hfault hs hend =>
  (blitStart_moves hfault).linked_of hs (blitStart_blitterLinked hend) ((blitStart_moves hfault).dmaLinked (by decide) hs.dma)

theorem pokeReg_keepsLinks (r : Reg) (v : Word) : KeepsLinks (pokeReg r v) := by
  intro s hfault hs hend
  rcases pokeReg_cases r v hfault with hplain | ⟨t, hstored, hrun, heq⟩ | heq | ⟨t, hstored, hrun, heq⟩
  · exact hplain.linked (by decide) (by decide) hs
  · rw [heq] at hend ⊢
    exact rebuild_keepsLinks t hrun (hstored.linked (by decide) (by decide) hs) hend
  · rw [heq] at hend ⊢
    obtain ⟨hstored, hrun⟩ := storeDmacon_moves v hfault
    exact rebuild_keepsLinks _ hrun
      (hstored.linked_of hs (storeDmacon_blitterLinked v hs.blitter) (hstored.dmaLinked (by decide) hs.dma)) hend
  · rw [heq] at hend ⊢
    exact blitStart_keepsLinks t hrun (hstored.linked (by decide) (by decide) hs) hend

theorem accessReg_keepsLinks (r : Reg) (a : Access) : KeepsLinks (accessReg r a) := by
  intro s hfault hs hend
  cases a with
  | sized dir width operands => exact absurd hend (raiseFatal_halts _ _)
  | peek =>
    have hnoted : Moves [.record] s (s.log (.peek r)) := .one (.peek s r) hfault (by decide)
    exact (peekReg_moves r (s := s.log (.peek r)) hfault).linked (by decide) (by decide) (hnoted.linked (by decide) (by decide) hs)
  | poke v =>
    have hnoted : Moves [.record] s (s.log (.poke r v)) := .one (.poke s r v) hfault (by decide)
    exact pokeReg_keepsLinks r v _ hfault (hnoted.linked (by decide) (by decide) hs) hend

/-- A change of a slot that is neither the Blitter's nor DMA's leaves both links. -/
theorem Moves.linked_of_slot {x : SlotId} {s t : State} (hx : x ≠ .blitter ∧ x ≠ .dma)
    (h : Moves [.raise, .slot x, .passing, .record] s t) (hs : s.Linked) : t.Linked := by
  have hblt : ∀ l ∈ bltLinkLabels, l ∉ [Label.raise, .slot x, .passing, .record] := by
    simp [bltLinkLabels, hx.1.symm]
  have hdma : ∀ l ∈ dmaLinkLabels, l ∉ [Label.raise, .slot x, .passing, .record] := by
    simp [dmaLinkLabels, hx.2.symm]
  exact h.linked hblt hdma hs

theorem ne_of_collaboratorSlot {x : SlotId} (h : collaboratorSlot x = true) : x ≠ .blitter ∧ x ≠ .dma := by
  constructor <;> (rintro rfl; cases h)

theorem runCollabAct_keepsLinks {act : CollabAct} (hact : act.conforming = true) : KeepsLinks (runCollabAct act) := by
  intro s hfault hs hend
  cases act with
  | schedule x offset kind payload =>
    exact ((scheduleNext_moves x offset kind payload hfault).mono (by simp)).linked_of_slot (ne_of_collaboratorSlot hact) hs
  | cancel x =>
    exact Moves.linked_of_slot (ne_of_collaboratorSlot hact) (.one (.empty s x) hfault (by simp)) hs
  | access r a => exact accessReg_keepsLinks r a s hfault hs hend
  | pixel answers =>
    exact (Moves.one (A := [.pixel]) (.pixel s answers) hfault (by decide)).linked (by decide) (by decide) hs
  | write a v => exact (Moves.one (A := [.store]) (.store s a v) hfault (by decide)).linked (by decide) (by decide) hs

theorem runScript_keepsLinks {script : List CollabAct} (hscript : ∀ act ∈ script, act.conforming = true) :
    KeepsLinks (runScript script) := by
  induction script with
  | nil => exact fun _ _ hs _ => hs
  | cons act rest ih =>
    exact (runCollabAct_keepsLinks (hscript act List.mem_cons_self)).andThen
      (ih fun act hact => hscript act (List.mem_cons_of_mem _ hact))

theorem collabHandler_keepsLinks : KeepsLinks collabHandler := by
  intro s hfault hs hend
  unfold collabHandler at hend ⊢
  split at hend
  case h_1 => exact hs
  case h_2 script rest hhandlers =>
    have htaken : Moves [.script] s { s with handlers := rest } :=
      .one (.script s rest fun x hx => hhandlers ▸ List.mem_cons_of_mem _ hx) hfault (by decide)
    exact runScript_keepsLinks (hs.conforming.handlers script (hhandlers ▸ List.mem_cons_self)) _ hfault
      (htaken.linked (by decide) (by decide) hs) hend

theorem hsync_keepsLinks : KeepsLinks hsync := by
  intro s hfault hs hend
  have hnoticed : (lineEndNotices s).fault = none := by rw [lineEndNotices_fault, hfault]
  refine rebuild_keepsLinks.andThen (fun t hrun ht _ => ?_) (lineEndNotices s) hnoticed
    ((lineEndNotices_moves hfault).linked (by decide) (by decide) hs) hend
  exact (scheduleOwn_moves .raster Config.cols 0 hrun).linked (by decide) (by decide) ht

theorem dmaFire_keepsLinks {s : State} (payload : Payload) (hfault : s.fault = none) (hsound : s.Sound)
    (hconforming : s.Conforming) (hblitter : s.BlitterLinked) (hend : (dmaFire payload s).fault = none) :
    (dmaFire payload s).Linked := by
  have hmoves := dmaFire_moves payload hfault
  refine ⟨hmoves.sound hsound, hmoves.conforming hconforming, hmoves.blitterLinked (by decide) hblitter, ?_⟩
  rw [dmaFire] at hend ⊢
  rcases andThen_cases (transfer (s.ownerAt s.column) s.column) nextColumn s with ⟨hstop, heq⟩ | ⟨_, heq⟩ <;> rw [heq] at hend ⊢
  · exact absurd hend hstop
  · exact nextColumn_dmaLinked ((transfer_moves _ _ hfault).sound hsound).tables

/-- A slot's turn keeps the links: the entry that it clears is a link's side only in the turn of the Blitter or of DMA, which
then ends with the link restored. -/
theorem dispatchSlot_keepsLinks (x : SlotId) : KeepsLinks (dispatchSlot x) := by
  intro s hfault hs hend
  unfold dispatchSlot at hend ⊢
  split at hend
  case h_1 => exact hs
  case h_2 e hdue =>
    have hstart := dispatched_moves x e hfault
    rcases handler_cases x e (s.dispatched x e) with ⟨_, heq⟩ | ⟨rfl, heq⟩ | ⟨rfl, heq⟩ | ⟨rfl, heq⟩ | ⟨hx, heq⟩ <;>
      rw [heq] at hend ⊢
    · exact absurd hend (raiseFatal_halts _ _)
    · exact hsync_keepsLinks _ hfault (hstart.linked (by decide) (by decide) hs) hend
    · exact dmaFire_keepsLinks _ hfault (hstart.sound hs.sound) (hstart.conforming hs.conforming)
        (hstart.blitterLinked (by decide) hs.blitter) hend
    · have hmoves := hstart.mono (B := .store :: .passing :: .record :: bltStepLabels) (by decide) |>.trans
        (bltStep_moves (by decide) (fun _ _ _ _ => by decide) (show (s.dispatched .blitter e).fault = none from hfault))
      exact hmoves.linked_of hs (bltStep_blitterLinked hfault (slot_setSlot_same s SlotId.blitter none) hend)
        (hmoves.dmaLinked (by decide) hs.dma)
    · exact collabHandler_keepsLinks _ hfault
        ((hstart.mono (by simp)).linked_of_slot (ne_of_collaboratorSlot hx) hs) hend

theorem passSlots_keepsLinks (xs : List SlotId) : KeepsLinks (passSlots xs) := by
  induction xs with
  | nil => exact fun _ _ hs _ => hs
  | cons x rest ih => exact (dispatchSlot_keepsLinks x).andThen ih

theorem pass_keepsLinks : KeepsLinks pass := by
  intro s hfault hs hend
  have hswept := passSlots_keepsLinks s.cfg.slots s hfault hs hend
  have hended : Moves [.passing] (passSlots s.cfg.slots s) (pass s) := .free (.passing _ none) (.inl rfl) (by decide)
  exact hended.linked (by decide) (by decide) hswept

end Sys2Proof.Machine

/-! Whole cycles from a linked state with conforming agents: what a pass leaves in the slots, what a tick makes of it, and the
notifications of the lines and frames that end (40_event_scheduler.md R145 to R150, 41_beam_tracker.md R176, R177). -/

namespace Sys2Proof.Machine

/-! ### The turns after the raster's -/

/-- The labels of a turn other than the raster's: with conforming handlers none of them touches the raster slot or sends a
line-end notification. -/
def laterTurnLabels : List Label :=
  [.slot .dma, .slot .blitter, .slot .copper, .slot .disk, .slot .ciaa, .slot .ciab, .slot .inspection, .passing, .read,
    .notice .plane1Data, .record, .raise, .table, .ptr, .modulo, .control, .latch, .bltState, .bltStart, .bltInner, .reply,
    .store, .pixel, .script]

theorem slot_mem_laterTurnLabels {x : SlotId} (hx : x ≠ .raster) : Label.slot x ∈ laterTurnLabels := by
  cases x
  case raster => exact absurd rfl hx
  all_goals decide

theorem dispatchSlot_later_moves {x : SlotId} (hx : x ≠ .raster) {s : State} (hfault : s.fault = none)
    (hconforming : s.Conforming) : Moves laterTurnLabels s (dispatchSlot x s) := by
  unfold dispatchSlot
  split
  case h_1 => exact .refl s
  case h_2 e _ =>
    have hstart : Moves laterTurnLabels s (s.dispatched x e) := (dispatched_moves x e hfault).mono
      (List.cons_subset.mpr ⟨slot_mem_laterTurnLabels hx, by decide⟩)
    refine hstart.trans ?_
    have hrun : (s.dispatched x e).fault = none := hfault
    rcases handler_cases x e (s.dispatched x e) with ⟨_, heq⟩ | ⟨hraster, _⟩ | ⟨_, heq⟩ | ⟨_, heq⟩ | ⟨_, heq⟩
    · exact heq ▸ .one (.raise _ _ nofun) hrun (by decide)
    · exact absurd hraster hx
    · exact heq ▸ (dmaFire_moves _ hrun).mono (by decide)
    · exact heq ▸ bltStep_moves (by decide) (fun _ _ _ _ => by decide) hrun
    · exact heq ▸ collabHandler_moves (by decide) (by decide) (.inl (hstart.conforming hconforming).handlers) hrun

theorem passSlots_later_moves {xs : List SlotId} (hxs : .raster ∉ xs) : ∀ {s : State}, s.fault = none → s.Conforming →
    Moves laterTurnLabels s (passSlots xs s) := by
  induction xs with
  | nil => exact fun {s} _ _ => .refl s
  | cons x rest ih =>
    intro s hfault hconforming
    obtain ⟨hx, hrest⟩ := List.ne_and_not_mem_of_not_mem_cons hxs
    have hturn := dispatchSlot_later_moves (Ne.symm hx) hfault hconforming
    rcases andThen_cases (dispatchSlot x) (passSlots rest) s with ⟨_, heq⟩ | ⟨hrun, heq⟩ <;> rw [passSlots, heq]
    · exact hturn
    · exact hturn.trans (ih hrest hrun (hturn.conforming hconforming))

/-- A pass is the raster's turn and then the others'. -/
theorem pass_later_moves {s : State} (horder : s.cfg.OrderOk) (hfault : s.fault = none) (hconforming : s.Conforming)
    (hend : (pass s).fault = none) :
    (dispatchSlot .raster s).fault = none ∧ Moves laterTurnLabels (dispatchSlot .raster s) (pass s) := by
  have hnodup : .raster ∉ s.cfg.slots.tail := (List.nodup_cons.mp (slots_nodup horder)).1
  have hslots : passSlots s.cfg.slots s = andThen (dispatchSlot .raster) (passSlots s.cfg.slots.tail) s := rfl
  have hfirst : (dispatchSlot .raster s).fault = none := by
    by_contra hstop
    have hstopped : passSlots s.cfg.slots s = dispatchSlot .raster s := hslots.trans (andThen_stop hstop)
    exact hstop (hstopped ▸ hend)
  have hrest := passSlots_later_moves hnodup hfirst ((dispatchSlot_moves .raster hfault).conforming hconforming)
  refine ⟨hfirst, ?_⟩
  rw [pass, hslots, andThen_run hfirst]
  exact hrest.trans (.free (.passing _ none) (.inl rfl) (by decide))

/-! ### The raster's turn (R176) -/

theorem State.BeamOk.column_lt {s : State} (h : s.BeamOk) : s.column < 227 := by
  obtain ⟨_, _, hcolumn⟩ := (beamOk_iff s).mp h
  omega

/-- After its turn the raster slot holds the next line's HSYNC. -/
def State.RasterAhead (s : State) : Prop :=
  ∃ e, s.slot .raster = some e ∧ e.trigger = s.clock + (Config.cols - s.column)

/-- The LINE notifications that the pass of this cycle sends: a line has ended, but for clock 0 (R176). -/
def State.lineEnds (s : State) : Nat := if s.column = 0 ∧ s.clock ≠ 0 then 1 else 0

/-- The FRAME notifications that it sends: a frame has ended with the line. -/
def State.frameEnds (s : State) : Nat := if s.column = 0 ∧ s.clock ≠ 0 ∧ s.line = 0 then 1 else 0

/-- Since `s` the notifications of its cycle have been sent. -/
def LineEnded (s u : State) : Prop :=
  Claims.lineNotices u.history = Claims.lineNotices s.history + s.lineEnds ∧
    Claims.frameNotices u.history = Claims.frameNotices s.history + s.frameEnds

theorem lineNotices_append (h k : List Record) :
    Claims.lineNotices (h ++ k) = Claims.lineNotices h + Claims.lineNotices k := List.countP_append

theorem frameNotices_append (h k : List Record) :
    Claims.frameNotices (h ++ k) = Claims.frameNotices h + Claims.frameNotices k := List.countP_append

theorem lineEndNotices_lineNotices (s : State) : Claims.lineNotices (lineEndNotices s).history =
    Claims.lineNotices s.history + if s.clock ≠ 0 then 1 else 0 := by
  rw [lineEndNotices_eq]
  by_cases hclock : s.clock = 0
  · simp [hclock]
  · by_cases hline : s.line = 0 <;> simp [hclock, hline, lineNotices_append] <;> rfl

theorem lineEndNotices_frameNotices (s : State) : Claims.frameNotices (lineEndNotices s).history =
    Claims.frameNotices s.history + if s.clock ≠ 0 ∧ s.line = 0 then 1 else 0 := by
  rw [lineEndNotices_eq]
  by_cases hclock : s.clock = 0
  · simp [hclock]
  · by_cases hline : s.line = 0 <;> simp [hclock, hline, frameNotices_append] <;> rfl

/-- An HSYNC without a fault has installed the next one, and sent the notifications of a line end and nothing else. -/
theorem hsync_of_no_fault {s : State} (hfault : s.fault = none) (hend : (hsync s).fault = none) :
    (hsync s).slot .raster = some ⟨s.clock + 227, .hsync, 0⟩ ∧ (hsync s).history = (lineEndNotices s).history := by
  have hbpu : s.pixel.bpu ≤ 6 := by
    by_contra hlt
    rw [hsync_of_lt_bpu (Nat.not_le.mp hlt)] at hend
    exact rebuild_halts_of_lt (by rw [lineEndNotices_pixel]; exact Nat.not_le.mp hlt) hend
  rw [hsync_of_bpu_le hfault hbpu, rebuild_of_bpu_le (by rw [lineEndNotices_pixel]; exact hbpu)]
  exact ⟨slot_setSlot_same .., rfl⟩

/-- At a column 0 HSYNC is due: it sends the notifications and installs its next entry. -/
theorem rasterTurn_due {s : State} {e : Entry} (hfault : s.fault = none) (hcolumn : s.column = 0)
    (hdue : s.due .raster = some e) (hend : (dispatchSlot .raster s).fault = none) :
    (dispatchSlot .raster s).RasterAhead ∧ LineEnded s (dispatchSlot .raster s) := by
  obtain ⟨hclock, _, _, hcolumn'⟩ := beam_of_cyclePart (dispatchSlot_cyclePart .raster s)
  have hturn : dispatchSlot .raster s = hsync (s.dispatched .raster e) := by
    simp only [dispatchSlot, hdue] at hend ⊢
    rcases handler_cases .raster e (s.dispatched .raster e) with ⟨_, heq⟩ | ⟨_, heq⟩ | ⟨hx, _⟩ | ⟨hx, _⟩ | ⟨hx, _⟩
    case inl =>
      rw [heq] at hend
      exact absurd hend (raiseFatal_halts _ _)
    case inr.inl => exact heq
    all_goals cases hx
  obtain ⟨hslot, hhistory⟩ := hsync_of_no_fault (s := s.dispatched .raster e) hfault (hturn ▸ hend)
  rw [← hturn] at hslot hhistory
  have hdispatched : (s.dispatched .raster e).history = s.history ++ [⟨s.clock, .dispatch .raster e.kind e.payload⟩] := rfl
  refine ⟨⟨_, hslot, ?_⟩, ?_, ?_⟩
  · rw [hclock, hcolumn', hcolumn]
    rfl
  · rw [hhistory, lineEndNotices_lineNotices, hdispatched, lineNotices_append, State.lineEnds]
    simp only [hcolumn, true_and]
    rfl
  · rw [hhistory, lineEndNotices_frameNotices, hdispatched, frameNotices_append, State.frameEnds]
    simp only [hcolumn, true_and]
    rfl

/-- A raster slot that is not due waits for the end of the line. -/
theorem rasterTurn {s : State} (hfault : s.fault = none) (hbeam : s.BeamOk) (hraster : s.RasterLinked)
    (hend : (dispatchSlot .raster s).fault = none) :
    (dispatchSlot .raster s).RasterAhead ∧ LineEnded s (dispatchSlot .raster s) := by
  obtain ⟨e, hslot, htrigger⟩ := hraster
  by_cases hcolumn : s.column = 0
  · rw [if_pos hcolumn, Nat.add_zero] at htrigger
    exact rasterTurn_due hfault hcolumn (due_eq_some.mpr ⟨hslot, htrigger⟩) hend
  · rw [if_neg hcolumn] at htrigger
    have hlt : s.column < 227 := hbeam.column_lt
    have hquiet : s.due .raster = none := Option.eq_none_iff_forall_not_mem.mpr fun e' he' => by
      obtain ⟨hslot', htrigger'⟩ := due_eq_some.mp he'
      obtain rfl := Option.some.inj (hslot.symm.trans hslot')
      dsimp only [Config.cols] at htrigger
      omega
    have hturn : dispatchSlot .raster s = s := by rw [dispatchSlot, hquiet]
    rw [hturn]
    exact ⟨⟨e, hslot, htrigger⟩, by simp [LineEnded, State.lineEnds, State.frameEnds, hcolumn]⟩

/-! ### The pass and the tick -/

theorem Moves.notices_eq {A : List Label} {s t : State} (h : Moves A s t) (hline : .notice .line ∉ A)
    (hframe : .notice .frame ∉ A) : Claims.lineNotices t.history = Claims.lineNotices s.history ∧
      Claims.frameNotices t.history = Claims.frameNotices s.history := by
  refine ⟨h.frame (f := fun u => Claims.lineNotices u.history) fun l u v hl hchange => ?_,
    h.frame (f := fun u => Claims.frameNotices u.history) fun l u v hl hchange => ?_⟩
  all_goals
    rcases hchange.history_cases with ⟨heq, _⟩ | ⟨what, heq, _, hnotice, _⟩
    · exact congrArg _ heq
  · rw [heq, lineNotices_append]
    refine Nat.add_eq_left.mpr (List.countP_eq_zero.mpr ?_)
    simp only [List.mem_singleton, forall_eq, beq_iff_eq]
    exact fun hwhat => hline (hnotice _ hwhat ▸ hl)
  · rw [heq, frameNotices_append]
    refine Nat.add_eq_left.mpr (List.countP_eq_zero.mpr ?_)
    simp only [List.mem_singleton, forall_eq, beq_iff_eq]
    exact fun hwhat => hframe (hnotice _ hwhat ▸ hl)

/-- A pass without a fault sends the notifications of its cycle and leaves the next HSYNC pending. -/
theorem pass_raster {s : State} (horder : s.cfg.OrderOk) (hbeam : s.BeamOk) (hconforming : s.Conforming)
    (hfault : s.fault = none) (hraster : s.RasterLinked) (hend : (pass s).fault = none) :
    (pass s).RasterAhead ∧ LineEnded s (pass s) := by
  obtain ⟨hrun, hlater⟩ := pass_later_moves horder hfault hconforming hend
  obtain ⟨⟨e, hslot, htrigger⟩, hline, hframe⟩ := rasterTurn hfault hbeam hraster hrun
  obtain ⟨hclock, _, _, hcolumn⟩ := beam_of_cyclePart (hlater.cyclePart_eq (by decide))
  obtain ⟨hlines, hframes⟩ := hlater.notices_eq (by decide) (by decide)
  exact ⟨⟨e, (hlater.slot_eq (by decide)).trans hslot, by rw [hclock, hcolumn]; exact htrigger⟩, hlines.trans hline,
    hframes.trans hframe⟩

theorem tick_column_cases (s : State) :
    (s.column + 1 = 227 ∧ (tick s).column = 0) ∨ (s.column + 1 ≠ 227 ∧ (tick s).column = s.column + 1) := by
  unfold tick
  repeat' split
  · exact .inl ⟨‹_›, rfl⟩
  · exact .inl ⟨‹_›, rfl⟩
  · exact .inr ⟨‹_›, rfl⟩

theorem tick_slot (s : State) (x : SlotId) : (tick s).slot x = s.slot x := by
  rw [tick_eq]
  rfl

theorem tick_rasterLinked {s : State} (hbeam : s.BeamOk) (h : s.RasterAhead) : (tick s).RasterLinked := by
  obtain ⟨e, hslot, htrigger⟩ := h
  have hlt := hbeam.column_lt
  refine ⟨e, (tick_slot s _).trans hslot, ?_⟩
  rw [htrigger, tick_clock]
  rcases tick_column_cases s with ⟨hend, hcolumn⟩ | ⟨_, hcolumn⟩ <;> rw [hcolumn]
  · rw [if_pos rfl]
    dsimp only [Config.cols]
    omega
  · rw [if_neg (Nat.succ_ne_zero _)]
    dsimp only [Config.cols]
    omega

/-! ### After the pass every entry lies ahead (R145, R150) -/

/-- The slot's entry, if any, is for a later cycle. -/
def State.Ahead (s : State) (x : SlotId) : Prop := ∀ e, s.slot x = some e → s.clock < e.trigger

theorem ahead_of_empty {s : State} {x : SlotId} (h : s.slot x = none) : s.Ahead x := fun e he => by
  rw [h] at he
  cases he

/-- Once a slot's turn has begun no change puts a due entry into it (R141). -/
theorem Moves.ahead {A : List Label} {s t : State} {x : SlotId} (h : Moves A s t) (htick : .tick ∉ A)
    (hpassing : .passing ∉ A) (hearliest : s.earliest x = s.clock + 1) (hs : s.Ahead x) : t.Ahead x := by
  have hkept : t.earliest x = t.clock + 1 ∧ t.Ahead x := by
    refine h.ind (P := fun u => u.earliest x = u.clock + 1 ∧ u.Ahead x) ⟨hearliest, hs⟩
      fun l u v hl _ hchange ⟨hu, hahead⟩ => ?_
    have hclock : v.clock = u.clock := clock_of_cyclePart (hchange.cyclePart_eq fun heq => htick (heq ▸ hl))
    have hpass : v.passing = u.passing := hchange.passing_eq fun heq => hpassing (heq ▸ hl)
    refine ⟨by simpa only [State.earliest, hclock, hpass, hchange.cfg_eq] using hu, fun e he => ?_⟩
    by_cases hslot : l = .slot x
    · subst hslot
      cases hchange with
      | fill _ _ e' _ htrigger =>
        rw [slot_setSlot_same] at he
        cases he
        rw [hclock]
        omega
      | empty => rw [slot_setSlot_same] at he; cases he
    · rw [hchange.slot_eq hslot] at he
      rw [hclock]
      exact hahead e he
  exact hkept.2

/-- A slot's turn leaves the entries of the slots before it and its own ahead. -/
theorem dispatchSlot_ahead {s : State} {pre post : List SlotId} {x y : SlotId} (horder : s.cfg.OrderOk)
    (hslots : s.cfg.slots = pre ++ x :: post) (hfault : s.fault = none) (htimely : s.Timely)
    (hpre : ∀ z ∈ pre, s.Ahead z) (hy : y ∈ pre ∨ y = x) : (dispatchSlot x s).Ahead y := by
  unfold dispatchSlot
  split
  case h_1 hquiet =>
    rcases hy with hy | rfl
    · exact hpre y hy
    · intro e he
      have hle := htimely y e he
      have hne : e.trigger ≠ s.clock := fun heq => by
        rw [due_eq_some.mpr ⟨he, heq⟩] at hquiet
        cases hquiet
      omega
  case h_2 e _ =>
    refine (handler_moves x e (s := s.dispatched x e) hfault).ahead (by decide) (by decide) ?_ ?_
    · have hindex : s.cfg.index y ≤ s.cfg.index x := by
        rcases hy with hy | rfl
        · exact (index_lt_of_mem_pre horder hslots hy).le
        · exact le_rfl
      exact if_pos hindex
    · by_cases hyx : y = x
      · exact ahead_of_empty (hyx ▸ slot_setSlot_same s x none)
      · have hsame : (s.dispatched x e).slot y = s.slot y := slot_setSlot_other s none hyx
        intro e' he'
        rw [hsame] at he'
        exact hpre y (hy.resolve_right hyx) e' he'

/-- So does a pass, turn by turn. -/
theorem passSlots_ahead (xs : List SlotId) : ∀ {s : State} {pre : List SlotId}, s.cfg.OrderOk → s.cfg.slots = pre ++ xs →
    s.fault = none → s.Timely → (∀ y ∈ pre, s.Ahead y) → (passSlots xs s).fault = none →
    ∀ y ∈ pre ++ xs, (passSlots xs s).Ahead y := by
  induction xs with
  | nil => exact fun {s pre} _ _ _ _ hpre _ y hy => hpre y (by simpa using hy)
  | cons x rest ih =>
    intro s pre horder hslots hfault htimely hpre hend
    have hturn := dispatchSlot_moves x hfault
    have hcfg : (dispatchSlot x s).cfg = s.cfg := congrArg CyclePart.cfg (dispatchSlot_cyclePart x s)
    rw [passSlots] at hend ⊢
    rcases andThen_cases (dispatchSlot x) (passSlots rest) s with ⟨hstop, heq⟩ | ⟨hrun, heq⟩ <;> rw [heq] at hend ⊢
    · exact absurd hend hstop
    · have hswept : ∀ y ∈ pre ++ [x], (dispatchSlot x s).Ahead y := fun y hy =>
        dispatchSlot_ahead horder hslots hfault htimely hpre (by simpa using hy)
      have hrest := ih (hcfg ▸ horder) (by rw [hcfg, hslots, List.append_assoc]; rfl) hrun
        (hturn.timely (by decide) htimely) hswept hend
      simpa using hrest

theorem pass_ahead {s : State} (horder : s.cfg.OrderOk) (hfault : s.fault = none) (htimely : s.Timely)
    (hend : (pass s).fault = none) (x : SlotId) : (pass s).Ahead x :=
  passSlots_ahead s.cfg.slots (pre := []) horder rfl hfault htimely nofun hend x (mem_slots horder x)

theorem tick_timely {s : State} (h : ∀ x, s.Ahead x) : (tick s).Timely := by
  intro x e he
  rw [tick_slot] at he
  rw [tick_clock]
  exact h x e he

/-- A DMA entry that lies ahead is for a later column, so the line does not end before it. -/
theorem tick_dmaLinked {s : State} (hahead : s.Ahead .dma) (h : s.DmaLinked) : (tick s).DmaLinked := by
  intro e he
  rw [tick_slot] at he
  obtain ⟨c, hle, hlt, howner, hpayload, htrigger⟩ := h e he
  have hlater := hahead e he
  dsimp only [Config.cols] at hlt
  rcases tick_column_cases s with ⟨hend, _⟩ | ⟨_, hcolumn⟩
  · omega
  · refine ⟨c, by omega, hlt, ?_, hpayload, by rw [tick_clock]; omega⟩
    rw [tick_eq]
    exact howner

/-! ### Cycles -/

/-- What a cycle without a fault keeps, a run of cycles without a fault keeps. -/
theorem runCycles_ind_cycle {P : State → Prop}
    (hcycle : ∀ s, s.fault = none → P s → (pass s).fault = none → P (tick (pass s))) (n : Nat) :
    ∀ s, s.fault = none → P s → (runCycles n s).fault = none → P (runCycles n s) := by
  induction n with
  | zero => exact fun _ _ h0 _ => h0
  | succ n ih =>
    intro s hfault h0 hend
    rw [runCycles] at hend ⊢
    rcases andThen_cases pass (fun t => runCycles n (tick t)) s with ⟨hstop, heq⟩ | ⟨hrun, heq⟩ <;> rw [heq] at hend ⊢
    · exact absurd hend hstop
    · exact ih _ (by rw [tick_fault, hrun]) (hcycle s hfault h0 hrun) hend

/-- All the links between two steps. -/
structure State.AllLinked (s : State) : Prop where
  linked  : s.Linked
  timely  : s.Timely
  raster  : s.RasterLinked

theorem cycle_allLinked {s : State} (hfault : s.fault = none) (hs : s.AllLinked) (hend : (pass s).fault = none) :
    (tick (pass s)).AllLinked := by
  obtain ⟨hlinked, htimely, hraster⟩ := hs
  have horder := hlinked.sound.order
  have hpass := pass_keepsLinks s hfault hlinked hend
  have hahead := pass_ahead horder hfault htimely hend
  have htick : Moves [.tick] (pass s) (tick (pass s)) := .one (.tick _) hend (by decide)
  exact ⟨htick.linked_of hpass (htick.blitterLinked (by decide) hpass.blitter) (tick_dmaLinked (hahead .dma) hpass.dma),
    tick_timely hahead,
    tick_rasterLinked hpass.sound.beam (pass_raster horder hlinked.sound.beam hlinked.conforming hfault hraster hend).1⟩

theorem runCycles_allLinked (n : Nat) {s : State} (hfault : s.fault = none) (hs : s.AllLinked)
    (hend : (runCycles n s).fault = none) : (runCycles n s).AllLinked :=
  runCycles_ind_cycle (fun _ hfault hs hend => cycle_allLinked hfault hs hend) n s hfault hs hend

/-! ### The operations of conforming agents -/

/-- An operation that runs no cycle and leaves the raster slot keeps all the links when it keeps those of a pass. -/
theorem Moves.allLinked {A : List Label} {s t : State} (h : Moves A s t) (htick : .tick ∉ A) (hslot : .slot .raster ∉ A)
    (hlinked : t.Linked) (hs : s.AllLinked) : t.AllLinked := by
  obtain ⟨hclock, _, _, hcolumn⟩ := beam_of_cyclePart (h.cyclePart_eq htick)
  refine ⟨hlinked, h.timely htick hs.timely, ?_⟩
  rw [State.RasterLinked, h.slot_eq hslot, hclock, hcolumn]
  exact hs.raster

/-- The links speak of the core, so they are those of a state with the same core. -/
theorem State.AllLinked.of_toCore {s t : State} (h : s.AllLinked) (hcore : t.toCore = s.toCore) (hsound : t.Sound)
    (hconforming : t.Conforming) : t.AllLinked := by
  obtain ⟨⟨_, _, hblitter, hdma⟩, htimely, hraster⟩ := h
  obtain ⟨core, _, _, _, _, _, _, _, _⟩ := t
  subst hcore
  exact ⟨⟨hsound, hconforming, hblitter, hdma⟩, htimely, hraster⟩

theorem resetCore_allLinked {s : State} (hs : s.Linked) : s.resetCore.AllLinked := by
  obtain ⟨hinv, hconforming, htimely, hblitter, hraster, hdma, _⟩ := resetStateIsGood
  have hreset : State.reset.AllLinked := ⟨⟨hinv.sound, hconforming, hblitter, hdma⟩, htimely, hraster⟩
  exact hreset.of_toCore rfl (resetCore_inv hs.sound.mem hs.sound.order).sound ⟨hs.conforming.inbox, hs.conforming.handlers⟩

theorem accessReg_allLinked (r : Reg) (a : Access) {s : State} (hfault : s.fault = none) (hs : s.AllLinked)
    (hend : (accessReg r a s).fault = none) : (accessReg r a s).AllLinked :=
  (accessReg_moves r a hfault).allLinked (by decide) (by decide) (accessReg_keepsLinks r a s hfault hs.linked hend) hs

/-- A scheduler call on a collaborator's slot is a conforming handler's action too. -/
theorem collabSlot_allLinked {act : CollabAct} (hact : act.conforming = true) {x : SlotId} (hx : collaboratorSlot x = true)
    {s : State} (hfault : s.fault = none) (hmoves : Moves [.raise, .slot x] s (runCollabAct act s)) (hs : s.AllLinked)
    (hend : (runCollabAct act s).fault = none) : (runCollabAct act s).AllLinked := by
  have hraster : x ≠ .raster := by rintro rfl; cases hx
  exact hmoves.allLinked (by simp) (by simp [hraster.symm]) (runCollabAct_keepsLinks hact s hfault hs.linked hend) hs

/-- A change of what stands outside the core leaves its links. -/
theorem Moves.allLinked_outside {A : List Label} {s t : State} (h : Moves A s t) (hcore : t.toCore = s.toCore)
    (hs : s.AllLinked) : t.AllLinked :=
  hs.of_toCore hcore (h.sound hs.linked.sound) (h.conforming hs.linked.conforming)

/-- An operation of an agent outside the core keeps the links, unless it raises a fault. -/
theorem exec_allLinked {i : Instr} {s t : State} (hexternal : externalOp i = true) (hfault : s.fault = none)
    (hs : s.AllLinked) (hexec : exec i s = .next t) (hend : t.fault = none) : t.AllLinked := by
  have hop {f : State → State} (hf : (f s).fault = none → (f s).AllLinked) (hnext : unlessHalted f s = t) :
      t.AllLinked := by
    rw [unlessHalted_run hfault] at hnext
    exact hnext ▸ hf (hnext ▸ hend)
  have hcontrol (b : Bool) : (atBoundary (fun u => { u with paused := b }) s).AllLinked :=
    atBoundary_ind hs ((Moves.one (A := [.paused]) (.paused s b) hfault (by decide)).allLinked_outside rfl hs)
  have hanswer (r : Reply) : (s.answer r).AllLinked :=
    (Moves.one (A := [.reply]) (.answer s r) hfault (by decide)).allLinked_outside rfl hs
  cases i
  all_goals have hnext := Host.Outcome.next.inj hexec
  case fetchA | fetchB | fetchC | holdA | holdB | holdD | writeD | loopback | bltidle | tick | rebuild | dmaFire | hsyncFire |
    bltStart | bltStepFire => cases hexternal
  case schedule x offset kind payload =>
    exact hop (collabSlot_allLinked (act := .schedule x offset kind payload) hexternal hexternal hfault
      (scheduleNext_moves x offset kind payload hfault) hs) hnext
  case cancel x =>
    exact hop (collabSlot_allLinked (act := .cancel x) hexternal hexternal hfault (.one (.empty s x) hfault (by simp)) hs) hnext
  case advanceTo target => exact hop (runCycles_allLinked _ hfault hs) hnext
  case hostStep =>
    exact hop (atBoundary_ind (P := fun u => u.fault = none → u.AllLinked) (fun _ => hs) (runCycles_allLinked _ hfault hs)) hnext
  case beamToCycle | cycleToBeam => exact hop (fun _ => hanswer _) hnext
  case hostPause | hostResume => exact hop (fun _ => hcontrol _) hnext
  case hostSnapshot => exact hnext ▸ atBoundary_ind (P := State.AllLinked) hs (hanswer _)
  case reset => exact hnext ▸ atBoundary_ind (P := State.AllLinked) hs (resetCore_allLinked hs.linked)
  all_goals exact hop (accessReg_allLinked _ _ hfault hs) hnext

/-- Settles O59: each change but those of the slots' own operations keeps the links; a block's operation restores its own link,
a pass leaves every entry ahead, and inputs that are no operations leave the core. -/
theorem conformingStepKeepsTheLinks : Obligations.ConformingStepKeepsTheLinks := by
  intro s t hinv hconforming hfault htimely hblitter hraster hdma hstep hend
  have hs : s.AllLinked := ⟨⟨hinv.sound, hconforming, hblitter, hdma⟩, htimely, hraster⟩
  have hsound : t.Sound := (stepKeepsInv s t hinv hstep).sound
  suffices t.AllLinked from ⟨this.linked.conforming, this.timely, this.linked.blitter, this.raster, this.linked.dma⟩
  rcases step_cases hstep with ⟨i, inbox, hinbox, hexec, hi⟩ | ⟨hcore, _, hhandlers, hinbox, _⟩
  · have hfetchedInv : ({ s with inbox := inbox, reply := .none } : State).Inv := hinv.of_toCore rfl rfl hinv.mem
    have hfetched : ({ s with inbox := inbox, reply := .none } : State).AllLinked :=
      hs.of_toCore rfl hfetchedInv.sound ⟨fun p i hp => hconforming.inbox p i (hinbox hp), hconforming.handlers⟩
    have hexternal : externalOp i = true := by
      rcases hi with rfl | ⟨p, hp, hdecode⟩
      · rfl
      · exact hconforming.inbox p i hp hdecode
    exact exec_allLinked (s := { s with inbox := inbox, reply := .none }) hexternal hfault hfetched hexec hend
  · exact hs.of_toCore hcore hsound ⟨fun p i hp => hconforming.inbox p i (hinbox hp), hhandlers ▸ hconforming.handlers⟩

/-! ### The notifications of lines and frames (R177) -/

/-- What O60 says of a state reached from `s`, with what a further cycle needs. -/
structure Counted (s u : State) : Prop where
  sound      : u.Sound
  conforming : u.Conforming
  raster     : u.RasterLinked
  lines      : Claims.lineNotices u.history + (s.clock - 1) / 227 = Claims.lineNotices s.history + (u.clock - 1) / 227
  frames     : Claims.frameNotices u.history + (s.clock - 1) / 71051 = Claims.frameNotices s.history + (u.clock - 1) / 71051

theorem lineEnds_eq {s : State} (h : s.BeamOk) : s.lineEnds + (s.clock - 1) / 227 = s.clock / 227 := by
  obtain ⟨_, _, hcolumn⟩ := (beamOk_iff s).mp h
  unfold State.lineEnds
  split <;> omega

theorem frameEnds_eq {s : State} (h : s.BeamOk) : s.frameEnds + (s.clock - 1) / 71051 = s.clock / 71051 := by
  obtain ⟨_, hline, hcolumn⟩ := (beamOk_iff s).mp h
  unfold State.frameEnds
  split <;> omega

theorem cycle_counted {s u : State} (hfault : u.fault = none) (hu : Counted s u) (hend : (pass u).fault = none) :
    Counted s (tick (pass u)) := by
  obtain ⟨hsound, hconforming, hraster, hlines, hframes⟩ := hu
  have hmoves : Moves Label.all u (tick (pass u)) := ((pass_moves hfault).mono (by decide)).snoc (.tick _) hend (by decide)
  obtain ⟨hahead, hline, hframe⟩ := pass_raster hsound.order hsound.beam hconforming hfault hraster hend
  have hhistory : (tick (pass u)).history = (pass u).history := by rw [tick_eq]
  have hbeam : (pass u).BeamOk := beamOk_of_cyclePart (pass_cyclePart u) hsound.beam
  have hlineEnds := lineEnds_eq hsound.beam
  have hframeEnds := frameEnds_eq hsound.beam
  refine ⟨hmoves.sound hsound, hmoves.conforming hconforming, tick_rasterLinked hbeam hahead, ?_, ?_⟩
  · rw [hhistory, hline, tick_clock, pass_clock, Nat.add_sub_cancel]
    omega
  · rw [hhistory, hframe, tick_clock, pass_clock, Nat.add_sub_cancel]
    omega

/-- Settles O60, cycle by cycle. -/
theorem oneNoticePerLineAndFrame : Obligations.OneNoticePerLineAndFrame := by
  intro s t target hinv hconforming hfault hraster hexec hend
  rw [exec_advanceTo_run target hfault] at hexec
  obtain rfl := Host.Outcome.next.inj hexec
  have hcounted : Counted s (advanceTo target s) :=
    runCycles_ind_cycle (fun _ hfault hu hend => cycle_counted hfault hu hend) _ s hfault
      ⟨hinv.sound, hconforming, hraster, rfl, rfl⟩ hend
  exact ⟨hcounted.lines, hcounted.frames⟩

end Sys2Proof.Machine

/-! A whole A,B,C,D transfer (44_blitter_sequencer.md R264 to R267): the four steps of a word, the row-by-row count of the words,
and the run of all the steps. -/

namespace Sys2Proof.Machine

/-! ### The four steps of a word -/

/-- The end of a step that goes on at index `k`: the next step is pending a cycle later (R247). -/
def State.nextStep (q : State) (k : BitVec 6) : State :=
  { q with blt.upc := k, slots := q.slots.set .blitter (some ⟨q.clock + 1, .bltStep, 0⟩) }

theorem finishStep_onward {u : Word} {q : State} {k : BitVec 6} (hrun : q.fault = none) (hdone : q.blt.done = false)
    (hadvance : advanceMicro u q = { q with blt.upc := k }) : finishStep u q = q.nextStep k := by
  rw [finishStep_of_not_done u hdone, andThen_run (by rw [hadvance]; exact hrun), hadvance, scheduleOwn_blitter_next_cycle]
  rfl

/-- The states after the first, the second and the third step of a word. -/
def fetchedC (r : State) : State := (fetchC (Claims.atStep r)).nextStep 1
def fetchedA (r : State) : State := (fetchA (Claims.atStep (fetchedC r))).nextStep 2
def fetchedB (r : State) : State := (fetchB (Claims.atStep (fetchedA r))).nextStep 3

theorem fetchedB_eq (r : State) : fetchedB r = { r with
    blt := { r.blt with
      state := .running, upc := 3, first := r.blt.wc == r.blt.wload, last := r.blt.wc == 1, done := false
      chold := r.wordAt r.blt.cpt, cpt := badv r.blt.cpt r.blt.cmod (r.blt.wc == 1)
      anew := r.wordAt r.blt.apt, apt := badv r.blt.apt r.blt.amod (r.blt.wc == 1)
      bnew := r.wordAt r.blt.bpt, bpt := badv r.blt.bpt r.blt.bmod (r.blt.wc == 1) }
    slots := r.slots.set .blitter (some ⟨r.clock + 1, .bltStep, 0⟩)
    history := r.history ++ [⟨r.clock, .read (chipAddr r.blt.cpt)⟩, ⟨r.clock, .read (chipAddr r.blt.apt)⟩,
      ⟨r.clock, .read (chipAddr r.blt.bpt)⟩] } := by
  simp only [fetchedB, fetchedA, fetchedC, State.nextStep, fetchC, fetchA, fetchB, Claims.atStep, State.noteRead, State.log,
    State.wordAt, List.append_assoc, List.cons_append, List.nil_append, Slots.set]

/-- The A word of the word at hand, masked (R253). -/
def amOf (r : State) : Word :=
  maskedA (r.wordAt r.blt.apt) r.blt.bltafwm r.blt.bltalwm (r.blt.wc == r.blt.wload) (r.blt.wc == 1)

/-- The Blitter when the fourth step counts its word: A and B are held and the destination word is formed. -/
def held (r : State) : Blitter := { (fetchedB r).blt with
  ahold := shift r.blt.aold (amOf r) (ashOf r.blt.bltcon0), aold := amOf r
  bhold := shift r.blt.bold (r.wordAt r.blt.bpt) (bshOf r.blt.bltcon1), bold := r.wordAt r.blt.bpt
  dhold := Claims.destination r (amOf r) }

/-- The state after the four steps of a word, with the word stored and counted as given. -/
def written (r : State) (x y : Nat) (d : Bool) (upc : BitVec 6) (state : BltState) : State := { r with
  mem := r.mem.writeWord (chipAddr r.blt.dpt) (Claims.destination r (amOf r))
  blt := { held r with
    wc := x, hc := y, done := d, upc := upc, state := state
    dpt := badv r.blt.dpt r.blt.dmod (r.blt.wc == 1) }
  slots := r.slots.set .blitter (some ⟨r.clock + 1, .bltStep, 0⟩)
  history := r.history ++ [⟨r.clock, .read (chipAddr r.blt.cpt)⟩, ⟨r.clock, .read (chipAddr r.blt.apt)⟩,
    ⟨r.clock, .read (chipAddr r.blt.bpt)⟩, ⟨r.clock, .write (chipAddr r.blt.dpt) (Claims.destination r (amOf r))⟩] }

/-- The steps leave the counters and the program until the word is counted. -/
theorem held_kept (r : State) : (held r).wc = r.blt.wc ∧ (held r).hc = r.blt.hc ∧ (held r).wload = r.blt.wload ∧
    (held r).prog = r.blt.prog := by
  rw [held, fetchedB_eq]
  exact ⟨rfl, rfl, rfl, rfl⟩

theorem written_kept (r : State) (x y : Nat) (d : Bool) (upc : BitVec 6) (state : BltState) :
    (written r x y d upc state).blt.wload = r.blt.wload ∧ (written r x y d upc state).blt.prog = r.blt.prog :=
  (held_kept r).2.2

theorem holdD_held (r : State) : holdD (holdB (holdA (Claims.atStep (fetchedB r)))) =
    { fetchedB r with blt := (held r).countWord } := by
  rw [held, fetchedB_eq]
  simp only [holdD, holdB, holdA, Claims.atStep, Blitter.am, amOf, Blitter.combined]
  rfl

theorem writeD_held {r : State} {x y : Nat} {d : Bool}
    (hcount : (held r).countWord = { held r with wc := x, hc := y, done := d }) :
    writeD { fetchedB r with blt := (held r).countWord } = written r x y d 3 .running := by
  rw [hcount, written, held, fetchedB_eq]
  simp only [writeD, State.store, State.storeAt, State.log, List.append_assoc, List.cons_append, List.nil_append]

/-! ### The micro-words -/

/-- A state of a running A,B,C,D transfer at the micro-word of index `k`. -/
structure AtMicro (r : State) (k : BitVec 6) : Prop where
  fault : r.fault = none
  prog  : r.blt.prog = some Config.programABCD
  upc   : r.blt.upc = k

/-- The micro-words before the last one go on to the next word. -/
theorem bltStep_onward {r : State} {k : BitVec 6} {u : Word} {f : State → State} {actions : List Instr} (hr : AtMicro r k)
    (hword : Config.programABCD[k.toNat]? = some u) (hdecode : decodeMicro u = .ok actions)
    (hactions : runActions u = f) (hadvance : advanceMicro u = stepUpc) (hk : k.toNat < 3)
    (hf : ∀ q, (f q).fault = q.fault ∧ (f q).blt.done = q.blt.done ∧ (f q).blt.upc = q.blt.upc ∧ (f q).blt.prog = q.blt.prog) :
    bltStep r = (f (Claims.atStep r)).nextStep (k + 1) ∧ AtMicro (bltStep r) (k + 1) := by
  obtain ⟨hfault, hprog, rfl⟩ := hr
  obtain ⟨hkept, hdone, hupc, hsame⟩ := hf (Claims.atStep r)
  have hnext : bltStep r = (f (Claims.atStep r)).nextStep (r.blt.upc + 1) := by
    rw [(bltStep_of_decodeMicro hprog hword hdecode).2, hactions]
    refine finishStep_onward (hkept.trans hfault) hdone ?_
    rw [hadvance, stepUpc, progLength_of_prog (hsame.trans hprog), hupc]
    exact if_neg (by show ¬ (4 ≤ r.blt.upc.toNat + 1); omega)
  rw [hnext]
  exact ⟨rfl, hkept.trans hfault, hsame.trans hprog, rfl⟩

theorem bltStep_fetchC {r : State} (hr : AtMicro r 0) : bltStep r = fetchedC r ∧ AtMicro (bltStep r) 1 :=
  bltStep_onward hr (u := 0x0004) rfl rfl rfl rfl (by decide) fun _ => ⟨rfl, rfl, rfl, rfl⟩

theorem bltStep_fetchA {r : State} (hr : AtMicro r 1) :
    bltStep r = (fetchA (Claims.atStep r)).nextStep 2 ∧ AtMicro (bltStep r) 2 :=
  bltStep_onward hr (u := 0x0001) rfl rfl rfl rfl (by decide) fun _ => ⟨rfl, rfl, rfl, rfl⟩

theorem bltStep_fetchB {r : State} (hr : AtMicro r 2) :
    bltStep r = (fetchB (Claims.atStep r)).nextStep 3 ∧ AtMicro (bltStep r) 3 :=
  bltStep_onward hr (u := 0x0002) rfl rfl rfl rfl (by decide) fun _ => ⟨rfl, rfl, rfl, rfl⟩

theorem bltStep_iterate_two {r : State} (hr : AtMicro r 0) : bltStep^[2] r = fetchedA r ∧ AtMicro (bltStep^[2] r) 2 := by
  obtain ⟨hone, hat⟩ := bltStep_fetchC hr
  obtain ⟨htwo, hnext⟩ := bltStep_fetchA hat
  exact ⟨htwo.trans (by rw [hone, fetchedA]), hnext⟩

theorem bltStep_iterate_three {r : State} (hr : AtMicro r 0) : bltStep^[3] r = fetchedB r ∧ AtMicro (bltStep^[3] r) 3 := by
  obtain ⟨htwo, hat⟩ := bltStep_iterate_two hr
  obtain ⟨hthree, hnext⟩ := bltStep_fetchB hat
  exact ⟨hthree.trans (by rw [htwo, fetchedB]), hnext⟩

theorem bltStep_iterate_four {r : State} {x y : Nat} {d : Bool} (hr : AtMicro r 0)
    (hcount : (held r).countWord = { held r with wc := x, hc := y, done := d }) :
    bltStep^[4] r = finishStep 0x03F8 (written r x y d 3 .running) := by
  obtain ⟨hthree, _, hprog, hupc⟩ := bltStep_iterate_three hr
  have hlast : bltStep^[4] r = bltStep (bltStep^[3] r) := rfl
  have hactions (q : State) : runActions 0x03F8 q = writeD (holdD (holdB (holdA q))) := rfl
  have hdecode : decodeMicro 0x03F8 = .ok (microActions 0x03F8) := rfl
  rw [hlast, (bltStep_of_decodeMicro hprog (by rw [hupc]; rfl) hdecode).2, hactions, hthree, holdD_held, writeD_held hcount]

/-- The end of the fourth step: the transfer is over, or the next word begins at index 0 (R247, R258). -/
theorem finishStep_done (r : State) (x y : Nat) :
    finishStep 0x03F8 (written r x y true 3 .running) = written r x y true 3 .idle :=
  finishStep_of_done _ rfl

theorem finishStep_more {r : State} (x y : Nat) (hfault : r.fault = none) :
    finishStep 0x03F8 (written r x y false 3 .running) = written r x y false 0 .running := by
  have hupc : (written r x y false 3 .running).blt.upc = 3 := rfl
  have hrun : (written r x y false 3 .running).fault = none := hfault
  refine finishStep_onward (k := 0) hrun rfl ?_
  rw [advanceMicro, if_pos (by decide), loopBack, hupc, if_neg (by decide)]
  rfl

/-! ### Pointers (R95, R252, R267) -/

theorem and_ptrMask_toNat (x : Ptr) : (x &&& Config.ptrMask).toNat = 2 * (x.toNat / 2 % 2 ^ 18) := by
  have hmask : Config.ptrMask.toNat = 2 * (2 ^ 18 - 1) := by decide
  refine Nat.eq_of_testBit_eq fun i => ?_
  rw [BitVec.toNat_and, Nat.testBit_and, hmask]
  cases i with
  | zero => simp
  | succ i =>
    rw [Nat.testBit_succ, Nat.testBit_succ, Nat.testBit_succ, Nat.mul_div_cancel_left _ two_pos,
      Nat.mul_div_cancel_left _ two_pos, Nat.testBit_two_pow_sub_one, Nat.testBit_mod_two_pow, Bool.and_comm]

/-- The reduction before an even advance is made again after it. -/
theorem and_ptrMask_add {x inc : Ptr} (h : inc.toNat % 2 = 0) :
    ((x &&& Config.ptrMask) + inc) &&& Config.ptrMask = (x + inc) &&& Config.ptrMask := by
  apply BitVec.eq_of_toNat_eq
  simp only [and_ptrMask_toNat, BitVec.toNat_add]
  omega

theorem sext32_even {m : Word} (h : moduloOk m) : (sext32 m).toNat % 2 = 0 := by
  have hbit : m.getLsbD 0 = false := by
    rw [← h, BitVec.getLsbD_and]
    simp
  have hsext : (sext32 m).getLsbD 0 = false := by
    rw [sext32, BitVec.getLsbD_signExtend, hbit]
    rfl
  rw [BitVec.getLsbD, Nat.testBit_zero, decide_eq_false_iff_not] at hsext
  omega

/-- A word is the last of its row, or the next one is in the same row. -/
theorem div_mod_succ {w : Nat} (n : Nat) (hw : 0 < w) :
    (n % w + 1 = w ∧ (n + 1) / w = n / w + 1 ∧ (n + 1) % w = 0) ∨
      (n % w + 1 < w ∧ (n + 1) / w = n / w ∧ (n + 1) % w = n % w + 1) := by
  have hlt := Nat.mod_lt n hw
  have hn := Nat.div_add_mod n w
  rcases Nat.lt_or_eq_of_le (Nat.succ_le_of_lt hlt) with hmid | hend
  · exact .inr ⟨hmid, (Nat.div_mod_unique hw).mpr ⟨by omega, hmid⟩⟩
  · refine .inl ⟨hend, (Nat.div_mod_unique hw).mpr ⟨?_, hw⟩⟩
    rw [Nat.mul_add, Nat.mul_one]
    omega

/-- A word moves its pointers on by one word. -/
theorem badv_ptrAfter {p : Ptr} {m : Word} {w n : Nat} (hw : 0 < w) (hm : moduloOk m) :
    badv (Claims.ptrAfter p m w n) m (decide (n % w + 1 = w)) = Claims.ptrAfter p m w (n + 1) := by
  have hsext := sext32_even hm
  have hadvance (inc : Ptr) (hinc : inc.toNat % 2 = 0) : (Claims.ptrAfter p m w n + 2 + inc) &&& Config.ptrMask =
      (p + BitVec.ofNat 32 (2 * n) + BitVec.ofNat 32 (n / w) * sext32 m + (2 + inc)) &&& Config.ptrMask := by
    rw [add_assoc]
    exact and_ptrMask_add (by rw [BitVec.toNat_add]; simp; omega)
  have hword : BitVec.ofNat 32 (2 * (n + 1)) = BitVec.ofNat 32 (2 * n) + 2 := BitVec.ofNat_add ..
  have hrow : BitVec.ofNat 32 (n / w + 1) = BitVec.ofNat 32 (n / w) + 1 := BitVec.ofNat_add ..
  unfold badv
  rcases div_mod_succ n hw with ⟨hlast, hdiv, _⟩ | ⟨hmid, hdiv, _⟩
  · rw [if_pos (decide_eq_true hlast), hadvance _ hsext, Claims.ptrAfter, hdiv, hword, hrow]
    congr 1
    ring
  · rw [if_neg (by simpa using hmid.ne), hadvance _ rfl, Claims.ptrAfter, hdiv, hword]
    congr 1
    ring

/-- After whole rows a pointer has advanced by their words and modulos. -/
theorem ptrAfter_rows (p : Ptr) (m : Word) {w : Nat} (h : Nat) (hw : 0 < w) : Claims.ptrAfter p m w (w * h) =
    (p + BitVec.ofNat 32 h * (BitVec.ofNat 32 (2 * w) + sext32 m)) &&& 0x7FFFE := by
  rw [Claims.ptrAfter, Nat.mul_div_cancel_left _ hw, show 2 * (w * h) = h * (2 * w) by ring, BitVec.ofNat_mul]
  congr 1
  ring

theorem ptr_written (r : State) (x y : Nat) (d : Bool) (upc : BitVec 6) (state : BltState) (ch : Channel) :
    (written r x y d upc state).ptr (.blt ch) = badv (r.ptr (.blt ch)) (r.modulo (.blt ch)) (r.blt.wc == 1) := by
  rw [written, held, fetchedB_eq]
  cases ch <;> rfl

theorem modulo_written (r : State) (x y : Nat) (d : Bool) (upc : BitVec 6) (state : BltState) (ch : Channel) :
    (written r x y d upc state).modulo (.blt ch) = r.modulo (.blt ch) := by
  rw [written, held, fetchedB_eq]
  cases ch <;> rfl

/-! ### The words of a transfer -/

/-- After `n` words of the transfer that started in `s`. -/
structure WordsMoved (s : State) (w n : Nat) (r : State) : Prop where
  fault  : r.fault = none
  clock  : r.clock = s.clock
  modulo : ∀ ch : Channel, r.modulo (.blt ch) = s.modulo (.blt ch)
  ptr    : ∀ ch : Channel, r.ptr (.blt ch) = Claims.ptrAfter (s.ptr (.blt ch)) (s.modulo (.blt ch)) w n
  writes : Claims.writes r.history = Claims.writes s.history + n

/-- Word `n` of a transfer of `h` rows of `w` words is at hand. -/
structure AtWord (s : State) (w h n : Nat) (r : State) : Prop where
  moved : WordsMoved s w n r
  micro : AtMicro r 0
  busy  : r.blt.state ≠ .idle
  wload : r.blt.wload = w
  wc    : r.blt.wc = w - n % w
  hc    : r.blt.hc = h - n / w
  fresh : n = 0 → r.blt.aold = 0 ∧ r.blt.bold = 0

theorem AtWord.first {s r : State} {w h n : Nat} (hr : AtWord s w h n r) (hw : 0 < w) :
    (r.blt.wc == r.blt.wload) = decide (n % w = 0) := by
  have hlt := Nat.mod_lt n hw
  rw [hr.wc, hr.wload, Bool.beq_eq_decide_eq, decide_eq_decide]
  omega

theorem AtWord.last {s r : State} {w h n : Nat} (hr : AtWord s w h n r) (hw : 0 < w) :
    (r.blt.wc == 1) = decide (n % w + 1 = w) := by
  have hlt := Nat.mod_lt n hw
  rw [hr.wc, Bool.beq_eq_decide_eq, decide_eq_decide]
  omega

theorem AtWord.amOf_eq {s r : State} {w h n : Nat} (hr : AtWord s w h n r) (hw : 0 < w) :
    amOf r = Claims.maskedWord r w n := by
  have hlt := Nat.mod_lt n hw
  have hlast : n % w + 1 = w ↔ n % w = w - 1 := by omega
  rw [amOf, maskedA, hr.first hw, hr.last hw, Claims.maskedWord]
  simp only [decide_eq_true_eq, hlast]
  rfl

theorem writes_append (h k : List Record) : Claims.writes (h ++ k) = Claims.writes h + Claims.writes k :=
  List.countP_append

/-- What a word does, however it is counted and whatever follows it. -/
theorem AtWord.wordMoved {s r : State} {w h n : Nat} (hr : AtWord s w h n r) (hw : 0 < w)
    (hmodulo : ∀ ch : Channel, moduloOk (s.modulo (.blt ch))) (x y : Nat) (d : Bool) (upc : BitVec 6) (state : BltState) :
    Claims.WordMoved s r (written r x y d upc state) w n ∧ WordsMoved s w (n + 1) (written r x y d upc state) := by
  obtain ⟨hfault, hclock, hmods, hptr, hwrites⟩ := hr.moved
  have ham := hr.amOf_eq hw
  have hhistory : (written r x y d upc state).history = r.history ++
      [⟨s.clock, .read (chipAddr r.blt.cpt)⟩, ⟨s.clock, .read (chipAddr r.blt.apt)⟩, ⟨s.clock, .read (chipAddr r.blt.bpt)⟩,
        ⟨s.clock, .write (chipAddr r.blt.dpt) (Claims.destination r (Claims.maskedWord r w n))⟩] := by
    rw [← ham, ← hclock]
    rfl
  refine ⟨⟨hptr, hr.fresh, ham, rfl, by rw [← ham]; rfl, hhistory⟩, hfault, hclock,
    fun ch => (modulo_written ..).trans (hmods ch), fun ch => ?_, ?_⟩
  · rw [ptr_written, hptr, hmods, hr.last hw, badv_ptrAfter hw (hmodulo ch)]
  · rw [hhistory, writes_append, hwrites]
    rfl

/-- A word that is not the transfer's last is followed by the next one. -/
theorem AtWord.next {s r : State} {w h n : Nat} (hr : AtWord s w h n r) (hw : 0 < w)
    (hmodulo : ∀ ch : Channel, moduloOk (s.modulo (.blt ch))) (hn : n + 1 < w * h) :
    Claims.WordMoved s r (bltStep^[4] r) w n ∧ AtWord s w h (n + 1) (bltStep^[4] r) := by
  have hrows : (n + 1) / w < h := Nat.div_lt_of_lt_mul hn
  obtain ⟨x, y, hcount, hx, hy⟩ : ∃ x y, (held r).countWord = { held r with wc := x, hc := y, done := false } ∧
      x = w - (n + 1) % w ∧ y = h - (n + 1) / w := by
    obtain ⟨hwc, hhc, hwload, _⟩ := held_kept r
    rw [hr.wc] at hwc
    rw [hr.hc] at hhc
    rw [hr.wload] at hwload
    rcases div_mod_succ n hw with ⟨hlast, hdiv, hmod⟩ | ⟨hmid, hdiv, hmod⟩ <;> rw [hdiv] at hrows ⊢ <;> rw [hmod]
    · exact ⟨_, _, countWord_row_end (by omega) (by omega), by rw [hwload]; omega, by rw [hhc]; omega⟩
    · exact ⟨_, _, countWord_within_row (by omega), by rw [hwc]; omega, hhc⟩
  have hstep : bltStep^[4] r = written r x y false 0 .running := by
    rw [bltStep_iterate_four hr.micro hcount, finishStep_more x y hr.micro.fault]
  obtain ⟨hword, hmoved⟩ := hr.wordMoved hw hmodulo x y false 0 .running
  obtain ⟨hwload, hprog⟩ := written_kept r x y false 0 .running
  rw [hstep]
  exact ⟨hword, hmoved, ⟨hmoved.fault, hprog.trans hr.micro.prog, rfl⟩, nofun, hwload.trans hr.wload, hx, hy, nofun⟩

/-- After the transfer's last word the Blitter is IDLE. -/
theorem AtWord.finish {s r : State} {w h n : Nat} (hr : AtWord s w h n r) (hw : 0 < w)
    (hmodulo : ∀ ch : Channel, moduloOk (s.modulo (.blt ch))) (hn : n + 1 = w * h) :
    Claims.WordMoved s r (bltStep^[4] r) w n ∧ WordsMoved s w (n + 1) (bltStep^[4] r) ∧
      (bltStep^[4] r).blt.state = .idle := by
  have hrows : (n + 1) / w = h := by rw [hn, Nat.mul_div_cancel_left _ hw]
  have hend : (n + 1) % w = 0 := by rw [hn, Nat.mul_mod_right]
  have hcount : (held r).countWord = { held r with wc := 0, hc := 0, done := true } := by
    obtain ⟨hwc, hhc, _, _⟩ := held_kept r
    rw [hr.wc] at hwc
    rw [hr.hc] at hhc
    rcases div_mod_succ n hw with ⟨hlast, hdiv, _⟩ | ⟨_, _, hmod⟩
    · exact countWord_transfer_end (by omega) (by omega)
    · omega
  have hstep : bltStep^[4] r = written r 0 0 true 3 .idle := by
    rw [bltStep_iterate_four hr.micro hcount, finishStep_done]
  obtain ⟨hword, hmoved⟩ := hr.wordMoved hw hmodulo 0 0 true 3 .idle
  rw [hstep]
  exact ⟨hword, hmoved, rfl⟩

/-! ### The run of all the steps -/

theorem widthIn_pos (v : Word) : 0 < Claims.widthIn v := by
  unfold Claims.widthIn
  split
  case isTrue => decide
  case isFalse h => exact Nat.pos_of_ne_zero fun hzero => h (BitVec.eq_of_toNat_eq hzero)

theorem heightIn_pos (v : Word) : 0 < Claims.heightIn v := by
  unfold Claims.heightIn
  split
  case isTrue => decide
  case isFalse h => exact Nat.pos_of_ne_zero fun hzero => h (BitVec.eq_of_toNat_eq hzero)

theorem atWord_started {s : State} {w h : Nat} (hfault : s.fault = none) (hregisters : s.RegistersOk)
    (hw : w = Claims.widthIn s.blt.bltsize) (hh : h = Claims.heightIn s.blt.bltsize) :
    AtWord s w h 0 (Claims.started s Config.programABCD) := by
  refine ⟨⟨hfault, rfl, fun ch => by cases ch <;> rfl, fun ch => ?_, rfl⟩, ⟨hfault, rfl, rfl⟩, nofun, hw.symm, ?_, ?_,
    fun _ => ⟨rfl, rfl⟩⟩
  · have hptr : (Claims.started s Config.programABCD).ptr (.blt ch) = s.ptr (.blt ch) := by cases ch <;> rfl
    rw [hptr, Claims.ptrAfter]
    simpa using (hregisters.ptr (.blt ch)).symm
  · rw [Nat.zero_mod]; exact hw.symm
  · rw [Nat.zero_div]; exact hh.symm

/-- Up to the last word each word of the transfer comes at hand after the four steps of the one before it. -/
theorem atWord_iterate {s t : State} {w h : Nat} (hw : 0 < w) (hmodulo : ∀ ch : Channel, moduloOk (s.modulo (.blt ch)))
    (ht : AtWord s w h 0 t) (n : Nat) : n < w * h → AtWord s w h n (bltStep^[4 * n] t) := by
  induction n with
  | zero => exact fun _ => ht
  | succ n ih =>
    intro hn
    have hnext := ((ih (Nat.lt_of_succ_lt hn)).next hw hmodulo hn).2
    rwa [← Function.iterate_add_apply, show 4 + 4 * n = 4 * (n + 1) by ring] at hnext

/-- Within a word the transfer runs without a fault. -/
theorem AtWord.running {s r : State} {w h n : Nat} (hr : AtWord s w h n r) {k : Nat} (hk : k < 4) :
    (bltStep^[k] r).fault = none ∧ (bltStep^[k] r).blt.state ≠ .idle := by
  interval_cases k
  · exact ⟨hr.micro.fault, hr.busy⟩
  · have hone := bltStep_fetchC hr.micro
    exact ⟨hone.2.fault, by show (bltStep r).blt.state ≠ _; rw [hone.1]; nofun⟩
  · have htwo := bltStep_iterate_two hr.micro
    exact ⟨htwo.2.fault, by rw [htwo.1]; nofun⟩
  · have hthree := bltStep_iterate_three hr.micro
    exact ⟨hthree.2.fault, by rw [hthree.1]; nofun⟩

/-- Steps through `exec` are the model's steps while none of them raises a fault. -/
theorem execSeq_bltStepFire (n : Nat) : ∀ {t : State}, (∀ k < n, (bltStep^[k] t).fault = none) →
    execSeq (List.replicate n .bltStepFire) t = .next (bltStep^[n] t) := by
  induction n with
  | zero => exact fun _ => rfl
  | succ n ih =>
    intro t hrun
    have hstart : t.fault = none := hrun 0 (Nat.succ_pos n)
    have hrest : ∀ k < n, (bltStep^[k] (bltStep t)).fault = none := fun k hk => hrun (k + 1) (Nat.succ_lt_succ hk)
    rw [List.replicate_succ, execSeq, exec_bltStepFire_run hstart, Function.iterate_succ_apply]
    dsimp only
    split
    case isFalse => exact ih hrest
    case isTrue hhalted =>
      cases n with
      | zero => rfl
      | succ m =>
        have hrun : (bltStep t).fault = none := hrest 0 (Nat.succ_pos m)
        rw [halted_eq_false hrun] at hhalted
        cases hhalted

/-- Settles O41, word by word: a word's four steps end at the next word, and the last word's with the Blitter IDLE. -/
theorem transferMovesEveryWord : Obligations.TransferMovesEveryWord := by
  intro s t w h hfault hregisters hdelay hstart hwidth hheight hexec
  have hw : 0 < w := hwidth ▸ widthIn_pos _
  have hh : 0 < h := hheight ▸ heightIn_pos _
  have hmodulo (ch : Channel) : moduloOk (s.modulo (.blt ch)) := hregisters.modulo (.blt ch)
  rw [exec_bltStart_run hfault, blitStart_eq_started hstart hdelay] at hexec
  obtain rfl := Host.Outcome.next.inj hexec
  have hword (n : Nat) (hn : n < w * h) : AtWord s w h n (bltStep^[4 * n] (Claims.started s Config.programABCD)) :=
    atWord_iterate hw hmodulo (atWord_started hfault hregisters hwidth hheight) n hn
  have hrunning (n : Nat) (hn : n < 4 * w * h) : (bltStep^[n] (Claims.started s Config.programABCD)).fault = none ∧
      (bltStep^[n] (Claims.started s Config.programABCD)).blt.state ≠ .idle := by
    have hlt : n / 4 < w * h := Nat.div_lt_of_lt_mul (by rwa [← mul_assoc])
    have hsplit : n = n % 4 + 4 * (n / 4) := (Nat.mod_add_div n 4).symm
    rw [hsplit, Function.iterate_add_apply]
    exact (hword _ hlt).running (Nat.mod_lt n four_pos)
  have hsteps (n : Nat) (hn : n ≤ 4 * w * h) : execSeq (List.replicate n .bltStepFire) (Claims.started s Config.programABCD) =
      .next (bltStep^[n] (Claims.started s Config.programABCD)) :=
    execSeq_bltStepFire n fun k hk => (hrunning k (hk.trans_le hn)).1
  have hfour (n : Nat) : bltStep^[4] (bltStep^[4 * n] (Claims.started s Config.programABCD)) =
      bltStep^[4 * n + 4] (Claims.started s Config.programABCD) := by
    rw [← Function.iterate_add_apply, Nat.add_comm]
  refine ⟨fun n hn => ⟨_, hsteps n hn.le, hrunning n hn⟩, fun n hn => ⟨_, _, hsteps (4 * n) ?_, hsteps (4 * n + 4) ?_, ?_⟩, ?_⟩
  · rw [mul_assoc]; omega
  · rw [mul_assoc]; omega
  · rw [← hfour]
    rcases Nat.lt_or_eq_of_le (Nat.succ_le_of_lt hn) with hmore | hlast
    · exact ((hword n hn).next hw hmodulo hmore).1
    · exact ((hword n hn).finish hw hmodulo hlast).1
  · obtain ⟨n, hn⟩ : ∃ n, n + 1 = w * h := ⟨w * h - 1, Nat.sub_add_cancel (Nat.mul_pos hw hh)⟩
    obtain ⟨_, hmoved, hidle⟩ := (hword n (by omega)).finish hw hmodulo hn
    rw [hfour, show 4 * n + 4 = 4 * w * h by rw [mul_assoc]; omega] at hmoved hidle
    refine ⟨_, hsteps _ le_rfl, hmoved.fault, hidle, by rw [hmoved.writes, hn], fun ch => ?_⟩
    rw [hmoved.ptr, hn, ptrAfter_rows _ _ h hw]

end Sys2Proof.Machine
